-- ==== Sys2Proof/Word.lean ====
section
/-! DEFINITION. The word types of the block and their plainest arithmetic (spec/00_scope.md rules R12, R13). -/

namespace Sys2Proof

/-- One byte of the frame memory, of the transfer buffer or of a wire frame. -/
abbrev Byte := BitVec 8

/-- One host register (R12: "Host registers are 16 bits"). -/
abbrev Word := BitVec 16

/-- A frame-memory address (R12: "The frame-memory address is 24 bits"). -/
abbrev FmAddr := BitVec 24

/-- A host register word address (R80). -/
abbrev RegAddr := BitVec 8

/-- One pixel (R140: "A pixel is 2 bits"). -/
abbrev Pixel := BitVec 2

end Sys2Proof
end

