-- ==== Sys2Proof/Config.lean ====
section
/-! DEFINITION. What an implementation fixes: the parameters of spec/00_scope.md rule R11 with their "must"
constraints, and the free values (draws) of spec/93_implementation_defined.md. The parameters that R11 marks OPEN are
an opaque constant; the ones R11 gives a value have that value at reset. A `State` carries its parameter set, so every
statement over all states holds for every parameter set that meets the constraints. -/

namespace Sys2Proof

/-- The video standard (R15). -/
inductive Std where
  | pal
  | ntsc
  deriving DecidableEq, Repr, Inhabited

/-- The active edge of an input (R11: rise, fall, both). -/
inductive Edge where
  | rise
  | fall
  | both
  deriving DecidableEq, Repr, Inhabited

/-- The pulse kind of a half-line slot (R144: H, E, B and `-`). -/
inductive Slot where
  | normal
  | equalizing
  | broad
  | none
  deriving DecidableEq, Repr, Inhabited

/-- The wire mode of the frame-memory device (R43). -/
inductive DevMode where
  | single
  | dual
  | quad
  deriving DecidableEq, Repr, Inhabited

/-- A parameter given per standard (R13: `P_X[s]`). -/
structure PerStd where
  pal  : Nat
  ntsc : Nat
  deriving DecidableEq, Repr, Inhabited

/-- `P_X[s]`, the value for standard `s` (R13). -/
def PerStd.value (p : PerStd) : Std → Nat
  | .pal => p.pal
  | .ntsc => p.ntsc

/-- One row of P_GEN_TABLE: the frame lines `first` to `last` and their two slots (R144). -/
structure GenRow where
  first : Nat
  last  : Nat
  slotA : Slot
  slotB : Slot
  deriving DecidableEq, Repr, Inhabited

/-- P_GEN_TABLE of one standard: its rows and its two field-start lines (R144: "The table also marks the two
field-start lines"). -/
structure GenTable where
  rows   : List GenRow
  field1 : Nat
  field2 : Nat
  deriving DecidableEq, Repr, Inhabited

/-- The slots of frame line `line`; a line that no row names has no pulse. -/
def GenTable.slots (t : GenTable) (line : Nat) : Slot × Slot :=
  match t.rows.find? (fun r => decide (r.first ≤ line) && decide (line ≤ r.last)) with
  | some r => (r.slotA, r.slotB)
  | Option.none => (.none, .none)

/-- The command bytes of the frame-memory wires (R136). -/
structure CmdBytes where
  write : Byte
  read  : Byte
  edio  : Byte
  eqio  : Byte
  rstio : Byte
  deriving DecidableEq, Repr, Inhabited

/-- The default command bytes (R11, R136; from general knowledge, GK2). -/
def CmdBytes.default : CmdBytes :=
  { write := 0x02, read := 0x03, edio := 0x3B, eqio := 0x38, rstio := 0xFF }

/-- Command bytes that the device can tell apart in each wire mode. -/
def CmdBytes.distinct (c : CmdBytes) : Bool :=
  decide (c.write ≠ c.read) && decide (c.write ≠ c.rstio) && decide (c.read ≠ c.rstio) && decide (c.edio ≠ c.eqio)

/-- The parameters that R11 leaves OPEN. Every value is a plain number in the units R11 gives. -/
structure OpenParams where
  /-- P_F_CLK -/
  fClk : Nat
  /-- P_HW_HAS_EXT_SYNC -/
  hasExtSync : Bool
  /-- P_CSYNC_EDGE -/
  csyncEdge : Edge
  /-- P_VSYNC_EDGE -/
  vsyncEdge : Edge
  /-- P_CMP_EDGE -/
  cmpEdge : Edge
  /-- P_MIN_DELTA -/
  minDelta : Nat
  /-- P_SETTLE -/
  settle : Nat
  /-- P_SHORT_MIN -/
  shortMin : Nat
  /-- P_SHORT_MAX -/
  shortMax : Nat
  /-- P_LONG_MIN -/
  longMin : Nat
  /-- P_LONG_MAX -/
  longMax : Nat
  /-- P_LINE_IVL -/
  lineIvl : Nat
  /-- P_LINE_TOL -/
  lineTol : Nat
  /-- P_PAT_PAL -/
  patPal : BitVec 16
  /-- P_PAT_NTSC -/
  patNtsc : BitVec 16
  /-- P_REF_PERIOD -/
  refPeriod : Nat
  /-- P_LINES_PAL, P_LINES_NTSC: the total lines L per field -/
  lines : PerStd
  /-- (P_XSIZE[i], P_PIXDIV[i]) for i < P_NUM_XSIZES; P_NUM_XSIZES is the list's length (R143) -/
  xsizes : List (Nat × Nat)
  /-- P_FM_BYTES -/
  fmBytes : Nat
  /-- P_FM_SCK_DIV -/
  fmSckDiv : Nat
  /-- P_GEN_LINE_CLKS_PAL, P_GEN_LINE_CLKS_NTSC -/
  genLineClks : PerStd
  /-- P_HS_W per standard -/
  hsW : PerStd
  /-- P_EQ_W per standard -/
  eqW : PerStd
  /-- P_BR_W per standard -/
  brW : PerStd
  deriving DecidableEq, Repr, Inhabited

/-- The parameters to which R11 gives a value; the value is the default of the field. -/
structure StatedParams where
  /-- P_TS_W -/
  tsW : Nat
  /-- P_EXT_MIN_DELTA -/
  extMinDelta : Nat
  /-- P_CLEAR_SR_ON_LOCK_LOSS -/
  clearSrOnLockLoss : Bool
  /-- P_INT_TIMEOUT -/
  intTimeout : Nat
  /-- P_STD_LINE_THRESHOLD -/
  stdLineThreshold : Nat
  /-- P_BUF_DEPTH -/
  bufDepth : Nat
  /-- P_CMD_WRITE, P_CMD_READ, P_CMD_EDIO, P_CMD_EQIO, P_CMD_RSTIO -/
  cmds : CmdBytes
  /-- P_DUMMY_QUAD_CLKS -/
  dummyQuad : Nat
  /-- P_DUMMY_DUAL_CLKS -/
  dummyDual : Nat
  /-- P_MS_EXTRA_CLKS -/
  msExtra : Nat
  /-- P_GEN_TABLE, PAL -/
  genPal : GenTable
  /-- P_GEN_TABLE, NTSC -/
  genNtsc : GenTable
  /-- P_HSTART_COMP(first, vlock, src) at index 4·first + 2·vlock + src; an index past the end is 0 -/
  hstartComp : List Nat
  deriving DecidableEq, Repr, Inhabited

/-- A whole parameter set of R11. -/
structure Params extends OpenParams, StatedParams
  deriving DecidableEq, Repr, Inhabited

/-- R11: a width entry must be a multiple of 4 with 4 ≤ P_XSIZE[i] ≤ 4·(2^16 − 1), and its divider at least 1. -/
def xsizeOk (e : Nat × Nat) : Bool :=
  decide (e.1 % 4 = 0) && decide (4 ≤ e.1) && decide (e.1 ≤ 4 * (2 ^ 16 - 1)) && decide (1 ≤ e.2)

/-- R11: the classification windows are in order and do not overlap. -/
def OpenParams.windowsOk (p : OpenParams) : Bool :=
  decide (p.shortMin ≤ p.shortMax) && decide (p.longMin ≤ p.longMax) &&
    (decide (p.shortMax < p.longMin) || decide (p.longMax < p.shortMin))

/-- R11: the constraints on the OPEN parameters: the "must" ones, and P_CSYNC_EDGE and P_VSYNC_EDGE, whose values are rise
and fall only (`both` is P_CMP_EDGE's alone). -/
def OpenParams.ok (p : OpenParams) : Bool :=
  p.windowsOk && decide (p.csyncEdge ≠ .both) && decide (p.vsyncEdge ≠ .both) && decide (p.patPal ≠ p.patNtsc) &&
    decide (1 ≤ p.xsizes.length) && decide (p.xsizes.length ≤ 8) && p.xsizes.all xsizeOk &&
    decide (1 ≤ p.fmBytes) && decide (p.fmBytes ≤ 2 ^ 24)

/-- R11: the "must" constraint on the stated parameters (P_BUF_DEPTH is 1..256). -/
def StatedParams.ok (p : StatedParams) : Bool :=
  decide (1 ≤ p.bufDepth) && decide (p.bufDepth ≤ 256)

/-- R11: "Constraints marked must are checked when the parameters are fixed." -/
def Params.ok (p : Params) : Bool := p.toOpenParams.ok && p.toStatedParams.ok

/-- A parameter set that meets R11's constraints. R11 refuses every other one ("the model has no behaviour for it"),
so a machine state can hold no other. -/
structure Cfg extends Params where
  ok : toParams.ok = true
  deriving DecidableEq, Repr

/-- P_GEN_TABLE of a standard (R144). -/
def StatedParams.genTable (p : StatedParams) : Std → GenTable
  | .pal => p.genPal
  | .ntsc => p.genNtsc

/-- P_HSTART_COMP(first, vlock, src) (R11). -/
def StatedParams.comp (p : StatedParams) (first vlock src : Bool) : Nat :=
  p.hstartComp.getD (4 * first.toNat + 2 * vlock.toNat + src.toNat) 0

/-- W(kind) of R213, for standard `std`. -/
def OpenParams.slotWidth (p : OpenParams) (std : Std) : Slot → Nat
  | .normal => p.hsW.value std
  | .equalizing => p.eqW.value std
  | .broad => p.brW.value std
  | .none => 0

/-- `round(µs · P_F_CLK / 10^6)` of R145, with the time in nanoseconds. DESIGN CHOICE: a tie of exactly one half cycle
rounds up; R145 does not say how `round` breaks it (log entry 29). -/
def cyclesOfNanos (nanos fClk : Nat) : Nat := (2 * nanos * fClk + 10 ^ 9) / (2 * 10 ^ 9)

/-- The cycles of two times in nanoseconds at `fClk` Hz, PAL and NTSC (R145). -/
def PerStd.cycles (nanos : PerStd) (fClk : Nat) : PerStd :=
  { pal := cyclesOfNanos nanos.pal fClk, ntsc := cyclesOfNanos nanos.ntsc fClk }

/-- The default line periods of R145, in nanoseconds: 64.000 µs and 63.556 µs. -/
def defaultLineNanos : PerStd := { pal := 64000, ntsc := 63556 }

/-- The default P_HS_W of R145, in nanoseconds: 4.7 µs in both standards. -/
def defaultHsNanos : PerStd := { pal := 4700, ntsc := 4700 }

/-- The default P_EQ_W of R145, in nanoseconds: 2.35 µs and 2.3 µs. -/
def defaultEqNanos : PerStd := { pal := 2350, ntsc := 2300 }

/-- The default P_BR_W of R145, in nanoseconds: 27.3 µs and 27.1 µs. -/
def defaultBrNanos : PerStd := { pal := 27300, ntsc := 27100 }

/-- A parameter set with R145's default line periods and pulse widths for its own P_F_CLK. -/
def OpenParams.withDefaultSync (p : OpenParams) : OpenParams :=
  { p with
    genLineClks := defaultLineNanos.cycles p.fClk, hsW := defaultHsNanos.cycles p.fClk,
    eqW := defaultEqNanos.cycles p.fClk, brW := defaultBrNanos.cycles p.fClk }

/-- FRAME_LINES of R212: 625 for PAL, 525 for NTSC. -/
def frameLines : Std → Nat
  | .pal => 625
  | .ntsc => 525

/-- The PAL table of R144 (from general knowledge, GK7). -/
def genTablePal : GenTable :=
  { rows :=
      [⟨1, 2, .broad, .broad⟩, ⟨3, 3, .broad, .equalizing⟩, ⟨4, 5, .equalizing, .equalizing⟩,
       ⟨6, 310, .normal, .none⟩, ⟨311, 312, .equalizing, .equalizing⟩, ⟨313, 313, .equalizing, .broad⟩,
       ⟨314, 315, .broad, .broad⟩, ⟨316, 317, .equalizing, .equalizing⟩, ⟨318, 318, .equalizing, .none⟩,
       ⟨319, 622, .normal, .none⟩, ⟨623, 623, .normal, .equalizing⟩, ⟨624, 625, .equalizing, .equalizing⟩]
    field1 := 1
    field2 := 313 }

/-- The NTSC table of R144 (from general knowledge, GK7). -/
def genTableNtsc : GenTable :=
  { rows :=
      [⟨1, 3, .equalizing, .equalizing⟩, ⟨4, 4, .broad, .broad⟩, ⟨5, 6, .broad, .broad⟩,
       ⟨7, 9, .equalizing, .equalizing⟩, ⟨10, 262, .normal, .none⟩, ⟨263, 263, .normal, .equalizing⟩,
       ⟨264, 265, .equalizing, .equalizing⟩, ⟨266, 266, .equalizing, .broad⟩, ⟨267, 268, .broad, .broad⟩,
       ⟨269, 269, .broad, .equalizing⟩, ⟨270, 271, .equalizing, .equalizing⟩, ⟨272, 272, .equalizing, .none⟩,
       ⟨273, 525, .normal, .none⟩]
    field1 := 4
    field2 := 266 }

/-- The values R11 states for the parameters that are not OPEN. -/
def StatedParams.default : StatedParams :=
  { tsW := 32, extMinDelta := 0, clearSrOnLockLoss := false, intTimeout := 3100, stdLineThreshold := 300,
    bufDepth := 256, cmds := CmdBytes.default, dummyQuad := 2, dummyDual := 4, msExtra := 0,
    genPal := genTablePal, genNtsc := genTableNtsc, hstartComp := [] }

/-- The OPEN part of the synthetic set EX of spec/95_test_vectors.md §1 (no real hardware's values, D41). The model
uses it for tests, and to show that R11's constraints can be met. -/
def OpenParams.synthetic : OpenParams := OpenParams.withDefaultSync
  { fClk := 60000000, hasExtSync := true, csyncEdge := .fall, vsyncEdge := .fall, cmpEdge := .fall,
    minDelta := 500, settle := 400, shortMin := 1850, shortMax := 1990, longMin := 3700, longMax := 3980,
    lineIvl := 3840, lineTol := 120, patPal := 0xFF00, patNtsc := 0xF0F0, refPeriod := 3840,
    lines := ⟨312, 262⟩, xsizes := [(420, 7), (480, 6), (560, 5), (672, 4)], fmBytes := 131072, fmSckDiv := 2,
    genLineClks := ⟨0, 0⟩, hsW := ⟨0, 0⟩, eqW := ⟨0, 0⟩, brW := ⟨0, 0⟩ }

theorem OpenParams.synthetic_ok : OpenParams.synthetic.ok = true := by decide

theorem StatedParams.default_ok : StatedParams.default.ok = true := by decide

/-- A parameter set from an OPEN part and a stated part that meet R11's constraints. -/
def Cfg.make (o : OpenParams) (d : StatedParams) (ho : o.ok = true) (hd : d.ok = true) : Cfg :=
  { toOpenParams := o, toStatedParams := d, ok := by simp [Params.ok, ho, hd] }

/-- The parameter set EX of spec/95_test_vectors.md §1. -/
def Cfg.synthetic : Cfg :=
  Cfg.make OpenParams.synthetic StatedParams.default OpenParams.synthetic_ok StatedParams.default_ok

/-- The OPEN parameters of the implementation: a free value (R11 "OPEN"). UNSAFE to assume anything of it. Its line
periods and pulse widths are not used: R145 gives their defaults from P_F_CLK. -/
opaque Config.openRaw : OpenParams

/-- A draw ("any value"): byte number `i` of draw number `k` (spec/93_implementation_defined.md, D40). -/
opaque Config.drawByte (k i : Nat) : Byte

/-- A draw of the device's wire mode, draw number `k` (R413, R700). -/
opaque Config.drawMode (k : Nat) : DevMode

/-- The 17-bit HSTART for a sum that its 17 bits cannot hold: a free value (R35 gives the width, no rule the result). -/
opaque Config.hstartOver (sum : Nat) : BitVec 17

/-- The level of `fm_sck` at cycle `phase` of a clock period of `div` cycles: no rule gives it, so it is a free value. -/
opaque Config.sckLevel (div phase : Nat) : Bool

/-- How many further cycles `fm_cs_n` stays 1, of one `fm_sck` period, where a frame starts at `clock`, in the very cycle in
which another has ended: R414 gives the period and R313, R401 and R730 leave no time for it, so the number is a free value. -/
opaque Config.selectHigh (clock : Nat) : Nat

/-- The value of `fm_sio_o` on data lines the arbiter does not enable: no rule gives it, so it is a free value. -/
opaque Config.sioReleased (clock : Nat) : BitVec 4

/-- `fm_sio_oe` during the extra toggles of a mode switch, before R411 and R412 set it to 0x1: no rule gives it, so it is a
free value. -/
opaque Config.togglesEnable (clock : Nat) : BitVec 4

/-- The value of `fm_sio_i` on lines that carry no read data: no rule gives it, so it is a free value. -/
opaque Config.sioIdle (clock : Nat) : BitVec 4

/-- The value of `pix_out` outside `pix_valid`, once a row has been streamed: no rule gives it, a free value. -/
opaque Config.pixIdle (clock : Nat) : Pixel

/-- The OPEN parameters at reset, with R145's default line periods and pulse widths for the implementation's P_F_CLK, and
with R11's constraints: a raw set that breaks one is refused (it is replaced by a set that meets them, so a parameter set
that breaks one has no behaviour here). -/
def Config.openParams : { p : OpenParams // p.ok = true } :=
  if h : Config.openRaw.withDefaultSync.ok = true then ⟨Config.openRaw.withDefaultSync, h⟩
  else ⟨OpenParams.synthetic, OpenParams.synthetic_ok⟩

/-- The parameter set at reset: OPEN parameters free, the others at the values R11 states. -/
def Config.params : Cfg :=
  Cfg.make Config.openParams.val StatedParams.default Config.openParams.property StatedParams.default_ok

end Sys2Proof
end

