-- ==== Sys2Proof/Syntax.lean ====
section
/-! DEFINITION. The five formats of spec/30_encoding.md rule R120 and the ONE inductive of operations: one constructor per
row of spec/opcode_table.json, in the table's order. -/

namespace Sys2Proof

/-- The host registers of the map of R122 (`p0…` and `p1…` are the two profiles). -/
inductive Reg where
  | ctrl
  | vstat
  | vstatSet
  | vstatClr
  | line
  | lastCount
  | field
  | elapsed
  | intPend
  | intEn
  | fmAddrLo
  | fmAddrHi
  | fmLen
  | fmCmd
  | fmStat
  | fmWdata
  | fmBufptr
  | fmRdata
  | outResW
  | outResH
  | dbgSr
  | dbgSrcnt
  | dbgLastline
  | dbgAddrLo
  | dbgAddrHi
  | p0Hsize
  | p0Top
  | p0Bot
  | p0Hoff
  | p0Scan
  | p1Hsize
  | p1Top
  | p1Bot
  | p1Hoff
  | p1Scan
  deriving DecidableEq, Repr

/-- The wire mode in which a frame is sent; `any` is RSTIO_ANY's, which is read in every mode (R137, R402). -/
inductive WireMode where
  | single
  | dual
  | quad
  | any
  deriving DecidableEq, Repr

/-- Where an operation arrives. The table numbers the words of its five formats separately and they share bits; what
tells them apart is the place they arrive at (R120, column "decoded by"). -/
inductive Port where
  /-- the 25-bit host access word -/
  | hostreg
  /-- a 16-bit write to `FM_CMD` -/
  | fmcmd
  /-- a frame on the frame-memory wires, in its wire mode -/
  | wire (mode : WireMode)
  /-- the model's event code -/
  | event
  /-- the `ZONE` value at a line event -/
  | zone
  deriving DecidableEq, Repr

/-- An operation as it arrives: the port, the first 32 bits (numbered as spec/opcode_table.json numbers them), and for
a wire frame the data bytes after the command byte and the three address bytes. -/
structure Fetch where
  port : Port
  word : BitVec 32
  tail : List Byte
  deriving DecidableEq, Repr

/-- The two kinds of a vertical sync event (R214). -/
inductive SyncKind where
  | genuine
  | internal
  deriving DecidableEq, Repr

/-- Every operation of spec/opcode_table.json. A reserved HOSTREG row keeps its `rw` bit (`write`), the address bits
its mask leaves free (`low`) and its data. A wire read frame keeps how many data bytes are clocked (`count`). EV_HOST_WR
and EV_HOST_RD keep the access they stand for, and VSYNC_EVENT its `kind` and `x` of R214 (`value`: for GENUINE true is
NTSC, for INTERNAL true is the odd parity). -/
inductive Instr where
  -- format HOSTREG
  /-- RD_CTRL (R500) -/
  | rdCtrl
  /-- WR_CTRL (R500) -/
  | wrCtrl (data : Word)
  /-- RD_VSTAT (R501) -/
  | rdVstat
  /-- WR_VSTAT (R501) -/
  | wrVstat (data : Word)
  /-- RD_VSTAT_SET (R502) -/
  | rdVstatSet
  /-- WR_VSTAT_SET (R502) -/
  | wrVstatSet (data : Word)
  /-- RD_VSTAT_CLR (R503) -/
  | rdVstatClr
  /-- WR_VSTAT_CLR (R503) -/
  | wrVstatClr (data : Word)
  /-- RD_LINE (R504) -/
  | rdLine
  /-- WR_LINE (R504) -/
  | wrLine (data : Word)
  /-- RD_LAST_COUNT (R505) -/
  | rdLastCount
  /-- WR_LAST_COUNT (R505) -/
  | wrLastCount (data : Word)
  /-- RD_FIELD (R506) -/
  | rdField
  /-- WR_FIELD (R506) -/
  | wrField (data : Word)
  /-- RD_ELAPSED (R507) -/
  | rdElapsed
  /-- WR_ELAPSED (R507) -/
  | wrElapsed (data : Word)
  /-- RD_INT_PEND (R508) -/
  | rdIntPend
  /-- WR_INT_PEND (R508) -/
  | wrIntPend (data : Word)
  /-- RD_INT_EN (R509) -/
  | rdIntEn
  /-- WR_INT_EN (R509) -/
  | wrIntEn (data : Word)
  /-- RD_FM_ADDR_LO (R510) -/
  | rdFmAddrLo
  /-- WR_FM_ADDR_LO (R510) -/
  | wrFmAddrLo (data : Word)
  /-- RD_FM_ADDR_HI (R510) -/
  | rdFmAddrHi
  /-- WR_FM_ADDR_HI (R510) -/
  | wrFmAddrHi (data : Word)
  /-- RD_FM_LEN (R511) -/
  | rdFmLen
  /-- WR_FM_LEN (R511) -/
  | wrFmLen (data : Word)
  /-- RD_FM_CMD (R512) -/
  | rdFmCmd
  /-- WR_FM_CMD (R512) -/
  | wrFmCmd (data : Word)
  /-- RD_FM_STAT (R515) -/
  | rdFmStat
  /-- WR_FM_STAT (R515) -/
  | wrFmStat (data : Word)
  /-- RD_FM_WDATA (R513) -/
  | rdFmWdata
  /-- WR_FM_WDATA (R513) -/
  | wrFmWdata (data : Word)
  /-- RD_FM_BUFPTR (R516) -/
  | rdFmBufptr
  /-- WR_FM_BUFPTR (R516) -/
  | wrFmBufptr (data : Word)
  /-- RD_FM_RDATA (R514) -/
  | rdFmRdata
  /-- WR_FM_RDATA (R514) -/
  | wrFmRdata (data : Word)
  /-- RD_OUT_RES_W (R519) -/
  | rdOutResW
  /-- WR_OUT_RES_W (R519) -/
  | wrOutResW (data : Word)
  /-- RD_OUT_RES_H (R519) -/
  | rdOutResH
  /-- WR_OUT_RES_H (R519) -/
  | wrOutResH (data : Word)
  /-- RD_DBG_SR (R517) -/
  | rdDbgSr
  /-- WR_DBG_SR (R517) -/
  | wrDbgSr (data : Word)
  /-- RD_DBG_SRCNT (R517) -/
  | rdDbgSrcnt
  /-- WR_DBG_SRCNT (R517) -/
  | wrDbgSrcnt (data : Word)
  /-- RD_DBG_LASTLINE (R518) -/
  | rdDbgLastline
  /-- WR_DBG_LASTLINE (R518) -/
  | wrDbgLastline (data : Word)
  /-- RD_DBG_ADDR_LO (R518) -/
  | rdDbgAddrLo
  /-- WR_DBG_ADDR_LO (R518) -/
  | wrDbgAddrLo (data : Word)
  /-- RD_DBG_ADDR_HI (R518) -/
  | rdDbgAddrHi
  /-- WR_DBG_ADDR_HI (R518) -/
  | wrDbgAddrHi (data : Word)
  /-- RD_P0.HSIZE (R521) -/
  | rdP0Hsize
  /-- WR_P0.HSIZE (R521) -/
  | wrP0Hsize (data : Word)
  /-- RD_P0.TOP (R522) -/
  | rdP0Top
  /-- WR_P0.TOP (R522) -/
  | wrP0Top (data : Word)
  /-- RD_P0.BOT (R523) -/
  | rdP0Bot
  /-- WR_P0.BOT (R523) -/
  | wrP0Bot (data : Word)
  /-- RD_P0.HOFF (R524) -/
  | rdP0Hoff
  /-- WR_P0.HOFF (R524) -/
  | wrP0Hoff (data : Word)
  /-- RD_P0.SCAN (R525) -/
  | rdP0Scan
  /-- WR_P0.SCAN (R525) -/
  | wrP0Scan (data : Word)
  /-- RD_P1.HSIZE (R521) -/
  | rdP1Hsize
  /-- WR_P1.HSIZE (R521) -/
  | wrP1Hsize (data : Word)
  /-- RD_P1.TOP (R522) -/
  | rdP1Top
  /-- WR_P1.TOP (R522) -/
  | wrP1Top (data : Word)
  /-- RD_P1.BOT (R523) -/
  | rdP1Bot
  /-- WR_P1.BOT (R523) -/
  | wrP1Bot (data : Word)
  /-- RD_P1.HOFF (R524) -/
  | rdP1Hoff
  /-- WR_P1.HOFF (R524) -/
  | wrP1Hoff (data : Word)
  /-- RD_P1.SCAN (R525) -/
  | rdP1Scan
  /-- WR_P1.SCAN (R525) -/
  | wrP1Scan (data : Word)
  /-- RESERVED_0x19 (R520) -/
  | reserved19 (write : Bool) (data : Word)
  /-- RESERVED_0x1A-0x1B (R520) -/
  | reserved1A (write : Bool) (low : BitVec 1) (data : Word)
  /-- RESERVED_0x1C-0x1F (R520) -/
  | reserved1C (write : Bool) (low : BitVec 2) (data : Word)
  /-- RESERVED_0x25 (R520) -/
  | reserved25 (write : Bool) (data : Word)
  /-- RESERVED_0x26-0x27 (R520) -/
  | reserved26 (write : Bool) (low : BitVec 1) (data : Word)
  /-- RESERVED_0x2D (R520) -/
  | reserved2D (write : Bool) (data : Word)
  /-- RESERVED_0x2E-0x2F (R520) -/
  | reserved2E (write : Bool) (low : BitVec 1) (data : Word)
  /-- RESERVED_0x30-0x3F (R520) -/
  | reserved30 (write : Bool) (low : BitVec 4) (data : Word)
  /-- RESERVED_0x40-0x7F (R520) -/
  | reserved40 (write : Bool) (low : BitVec 6) (data : Word)
  /-- RESERVED_0x80-0xFF (R520) -/
  | reserved80 (write : Bool) (low : BitVec 7) (data : Word)
  -- format FMCMD
  /-- FM_NOP (R405) -/
  | fmNop
  /-- FM_INIT (R406) -/
  | fmInit
  /-- FM_WRITE (R407) -/
  | fmWrite
  /-- FM_READ (R408) -/
  | fmRead
  /-- FM_RESERVED_0x4-0x7 (R409) -/
  | fmReserved4 (low : BitVec 2)
  /-- FM_RESERVED_0x8-0xF (R409) -/
  | fmReserved8 (low : BitVec 3)
  -- format WIRE
  /-- QWRITE (R407) -/
  | qwrite (addr : FmAddr) (data : List Byte)
  /-- QREAD (R408) -/
  | qread (addr : FmAddr) (count : Nat)
  /-- DREAD (R312) -/
  | dread (addr : FmAddr) (count : Nat)
  /-- RSTIO_Q (R411) -/
  | rstioQ
  /-- RSTIO_D (R412) -/
  | rstioD
  /-- RSTIO_ANY (R402) -/
  | rstioAny
  /-- EDIO_S (R411) -/
  | edioS
  /-- EQIO_S (R402) -/
  | eqioS
  -- format EVENT
  /-- EV_CSYNC (R202) -/
  | evCsync
  /-- EV_VSYNC (R203) -/
  | evVsync
  /-- EV_CMP (R205) -/
  | evCmp
  /-- EV_REF_TICK (R210) -/
  | evRefTick
  /-- EV_GEN_LINE (R212) -/
  | evGenLine
  /-- EV_RESET (R700) -/
  | evReset
  /-- EV_HOST_WR (R526) -/
  | evHostWr (addr : RegAddr) (data : Word)
  /-- EV_HOST_RD (R526) -/
  | evHostRd (addr : RegAddr)
  /-- EV_XFER_DONE (R410) -/
  | evXferDone
  /-- EV_PIX_START (R313) -/
  | evPixStart
  /-- EV_STREAM_END (R313) -/
  | evStreamEnd
  /-- LINE_EVENT (R204) -/
  | lineEvent
  /-- VSYNC_EVENT (R214) -/
  | vsyncEvent (kind : SyncKind) (value : Bool)
  /-- TIMEOUT_SWITCH (R211) -/
  | timeoutSwitch
  -- format ZONE
  /-- ZONE_PREROLL (R301) -/
  | zonePreroll
  /-- ZONE_SETUP (R303) -/
  | zoneSetup
  /-- ZONE_MODESWITCH (R304) -/
  | zoneModeswitch
  /-- ZONE_ACTIVE (R304) -/
  | zoneActive
  /-- ZONE_TEARDOWN (R307) -/
  | zoneTeardown
  /-- ZONE_RESERVED_5 (R300) -/
  | zoneReserved5
  /-- ZONE_RESERVED_6-7 (R300) -/
  | zoneReserved6 (low : BitVec 1)
  deriving DecidableEq, Repr

/-- What drives `fm_sio_i` in the data clocks of the read frames (R42): the device of R413, or something in its place (R608:
"a dead device shows as wrong read data"), whose levels are listed data clock by data clock. A clock past the list has any
level. -/
inductive SioSource where
  | device
  | lines (levels : List (BitVec 4))
  deriving DecidableEq, Repr

/-- What the environment does to one pin or port (R42): `rst`, an edge of `vsync_in`, `csync_in` or `cmp_in`, the host
bus's access word, a frame that something outside the block puts on the frame-memory wires (R413: "a device disturbed
from outside the block"), or another source of `fm_sio_i`. -/
inductive Drive where
  | rst
  | vsync (rise : Bool)
  | csync (rise : Bool)
  | cmp (rise : Bool)
  | host (access : BitVec 25)
  | frame (mode : WireMode) (word : BitVec 32) (tail : List Byte)
  | sio (source : SioSource)
  deriving DecidableEq, Repr

/-- One act of the environment, at a cycle of `clk` (R9). -/
structure Stimulus where
  time  : Nat
  drive : Drive
  deriving DecidableEq, Repr

end Sys2Proof
end

