-- ==== Sys2Proof/WellFormed.lean ====
section
/-! DEFINITION. Well-formedness of operations and of what the environment delivers. (R11's "must" constraints on the
parameters are `Params.ok` in Config.lean.) -/

namespace Sys2Proof

/-- A frame of R137 that the arbiter can send: a quad frame moves at most P_BUF_DEPTH ≤ 256 bytes (R87), a row read at
most the 16 bits of `RW` (R35). Every other operation's fields are bounded by their types. -/
def Instr.wf : Instr → Bool
  | .qwrite _ data => decide (data.length ≤ 256)
  | .qread _ count => decide (count ≤ 256)
  | .dread _ count => decide (count < 2 ^ 16)
  | _ => true

/-- Whether a stimulus is a host access. -/
def Stimulus.isHost (q : Stimulus) : Bool :=
  match q.drive with
  | .host _ => true
  | _ => false

/-- R526: "The host bus carries at most one access per clk cycle." -/
def hostOncePerCycle : List Stimulus → Bool
  | [] => true
  | q :: rest => (!q.isHost || rest.all (fun r => !(r.isHost && decide (r.time = q.time)))) && hostOncePerCycle rest

/-- The stimuli stand in the order of their cycles. -/
def timesRise : List Stimulus → Bool
  | [] => true
  | q :: rest => rest.all (fun r => decide (q.time ≤ r.time)) && timesRise rest

/-- What an environment may deliver. -/
def inputsWf (l : List Stimulus) : Bool := timesRise l && hostOncePerCycle l

end Sys2Proof
end

