-- ==== Sys2Proof/Decode.lean ====
section
/-! DEFINITION. The decoder and, after it, the encoder, both written from spec/30_encoding.md (R120 to R122, R130, R136,
R137, R139) and spec/opcode_table.json. -/

namespace Sys2Proof

/-- Why a word has no operation. R146: "Any other byte is never sent" and "codes not listed in rule R139 do not occur". -/
inductive DecodeError where
  /-- an event code that R139 does not list -/
  | eventCode (code : BitVec 5)
  /-- a command byte that no frame of R137 sends in this wire mode -/
  | wireByte (mode : WireMode) (cmd : Byte)
  deriving DecidableEq, Repr

/-- The word address of a register (R122). -/
def addrOf : Reg → RegAddr
  | .ctrl => 0x00
  | .vstat => 0x01
  | .vstatSet => 0x02
  | .vstatClr => 0x03
  | .line => 0x04
  | .lastCount => 0x05
  | .field => 0x06
  | .elapsed => 0x07
  | .intPend => 0x08
  | .intEn => 0x09
  | .fmAddrLo => 0x0A
  | .fmAddrHi => 0x0B
  | .fmLen => 0x0C
  | .fmCmd => 0x0D
  | .fmStat => 0x0E
  | .fmWdata => 0x0F
  | .fmBufptr => 0x10
  | .fmRdata => 0x11
  | .outResW => 0x12
  | .outResH => 0x13
  | .dbgSr => 0x14
  | .dbgSrcnt => 0x15
  | .dbgLastline => 0x16
  | .dbgAddrLo => 0x17
  | .dbgAddrHi => 0x18
  | .p0Hsize => 0x20
  | .p0Top => 0x21
  | .p0Bot => 0x22
  | .p0Hoff => 0x23
  | .p0Scan => 0x24
  | .p1Hsize => 0x28
  | .p1Top => 0x29
  | .p1Bot => 0x2A
  | .p1Hoff => 0x2B
  | .p1Scan => 0x2C

/-- The register at a word address; none at a reserved address (R122). -/
def regOf (a : RegAddr) : Option Reg :=
  match a.toNat with
  | 0x00 => some .ctrl
  | 0x01 => some .vstat
  | 0x02 => some .vstatSet
  | 0x03 => some .vstatClr
  | 0x04 => some .line
  | 0x05 => some .lastCount
  | 0x06 => some .field
  | 0x07 => some .elapsed
  | 0x08 => some .intPend
  | 0x09 => some .intEn
  | 0x0A => some .fmAddrLo
  | 0x0B => some .fmAddrHi
  | 0x0C => some .fmLen
  | 0x0D => some .fmCmd
  | 0x0E => some .fmStat
  | 0x0F => some .fmWdata
  | 0x10 => some .fmBufptr
  | 0x11 => some .fmRdata
  | 0x12 => some .outResW
  | 0x13 => some .outResH
  | 0x14 => some .dbgSr
  | 0x15 => some .dbgSrcnt
  | 0x16 => some .dbgLastline
  | 0x17 => some .dbgAddrLo
  | 0x18 => some .dbgAddrHi
  | 0x20 => some .p0Hsize
  | 0x21 => some .p0Top
  | 0x22 => some .p0Bot
  | 0x23 => some .p0Hoff
  | 0x24 => some .p0Scan
  | 0x28 => some .p1Hsize
  | 0x29 => some .p1Top
  | 0x2A => some .p1Bot
  | 0x2B => some .p1Hoff
  | 0x2C => some .p1Scan
  | _ => none

/-- The read access of a register (R147: `RD`). -/
def readOf : Reg → Instr
  | .ctrl => .rdCtrl
  | .vstat => .rdVstat
  | .vstatSet => .rdVstatSet
  | .vstatClr => .rdVstatClr
  | .line => .rdLine
  | .lastCount => .rdLastCount
  | .field => .rdField
  | .elapsed => .rdElapsed
  | .intPend => .rdIntPend
  | .intEn => .rdIntEn
  | .fmAddrLo => .rdFmAddrLo
  | .fmAddrHi => .rdFmAddrHi
  | .fmLen => .rdFmLen
  | .fmCmd => .rdFmCmd
  | .fmStat => .rdFmStat
  | .fmWdata => .rdFmWdata
  | .fmBufptr => .rdFmBufptr
  | .fmRdata => .rdFmRdata
  | .outResW => .rdOutResW
  | .outResH => .rdOutResH
  | .dbgSr => .rdDbgSr
  | .dbgSrcnt => .rdDbgSrcnt
  | .dbgLastline => .rdDbgLastline
  | .dbgAddrLo => .rdDbgAddrLo
  | .dbgAddrHi => .rdDbgAddrHi
  | .p0Hsize => .rdP0Hsize
  | .p0Top => .rdP0Top
  | .p0Bot => .rdP0Bot
  | .p0Hoff => .rdP0Hoff
  | .p0Scan => .rdP0Scan
  | .p1Hsize => .rdP1Hsize
  | .p1Top => .rdP1Top
  | .p1Bot => .rdP1Bot
  | .p1Hoff => .rdP1Hoff
  | .p1Scan => .rdP1Scan

/-- The write access of a register (R147: `WR`). -/
def writeOf (data : Word) : Reg → Instr
  | .ctrl => .wrCtrl data
  | .vstat => .wrVstat data
  | .vstatSet => .wrVstatSet data
  | .vstatClr => .wrVstatClr data
  | .line => .wrLine data
  | .lastCount => .wrLastCount data
  | .field => .wrField data
  | .elapsed => .wrElapsed data
  | .intPend => .wrIntPend data
  | .intEn => .wrIntEn data
  | .fmAddrLo => .wrFmAddrLo data
  | .fmAddrHi => .wrFmAddrHi data
  | .fmLen => .wrFmLen data
  | .fmCmd => .wrFmCmd data
  | .fmStat => .wrFmStat data
  | .fmWdata => .wrFmWdata data
  | .fmBufptr => .wrFmBufptr data
  | .fmRdata => .wrFmRdata data
  | .outResW => .wrOutResW data
  | .outResH => .wrOutResH data
  | .dbgSr => .wrDbgSr data
  | .dbgSrcnt => .wrDbgSrcnt data
  | .dbgLastline => .wrDbgLastline data
  | .dbgAddrLo => .wrDbgAddrLo data
  | .dbgAddrHi => .wrDbgAddrHi data
  | .p0Hsize => .wrP0Hsize data
  | .p0Top => .wrP0Top data
  | .p0Bot => .wrP0Bot data
  | .p0Hoff => .wrP0Hoff data
  | .p0Scan => .wrP0Scan data
  | .p1Hsize => .wrP1Hsize data
  | .p1Top => .wrP1Top data
  | .p1Bot => .wrP1Bot data
  | .p1Hoff => .wrP1Hoff data
  | .p1Scan => .wrP1Scan data

/-- The reserved rows of R122 and R520, by address. -/
def decodeReserved (write : Bool) (a : RegAddr) (data : Word) : Instr :=
  if a.toNat < 0x1A then .reserved19 write data
  else if a.toNat < 0x1C then .reserved1A write (a.extractLsb' 0 1) data
  else if a.toNat < 0x20 then .reserved1C write (a.extractLsb' 0 2) data
  else if a.toNat < 0x26 then .reserved25 write data
  else if a.toNat < 0x28 then .reserved26 write (a.extractLsb' 0 1) data
  else if a.toNat < 0x2E then .reserved2D write data
  else if a.toNat < 0x30 then .reserved2E write (a.extractLsb' 0 1) data
  else if a.toNat < 0x40 then .reserved30 write (a.extractLsb' 0 4) data
  else if a.toNat < 0x80 then .reserved40 write (a.extractLsb' 0 6) data
  else .reserved80 write (a.extractLsb' 0 7) data

/-- A HOSTREG access word: `rw[24]`, `addr[23:16]`, `data[15:0]`, decoded by `addr` (R120). -/
def decodeHost (access : BitVec 25) : Instr :=
  let write := access.getLsbD 24
  let a := access.extractLsb' 16 8
  let data := access.extractLsb' 0 16
  match regOf a with
  | some r => if write then writeOf data r else readOf r
  | none => decodeReserved write a data

/-- A write to FM_CMD: bits 3..0 are `op`, bits 15..4 are ignored (R129, R130). -/
def decodeFmCmd (op : BitVec 4) : Instr :=
  match op.toNat with
  | 0 => .fmNop
  | 1 => .fmInit
  | 2 => .fmWrite
  | 3 => .fmRead
  | n => if n < 8 then .fmReserved4 (op.extractLsb' 0 2) else .fmReserved8 (op.extractLsb' 0 3)

/-- The 24-bit address of a frame: A[23:16], A[15:8], A[7:0] in the three bytes after the command byte (R85, R137). -/
def frameAddr (word : BitVec 32) : FmAddr :=
  word.extractLsb' 8 8 ++ word.extractLsb' 16 8 ++ word.extractLsb' 24 8

/-- A wire frame, decoded by its command byte in its wire mode (R136, R137). -/
def decodeWire (c : CmdBytes) (mode : WireMode) (word : BitVec 32) (tail : List Byte) : Except DecodeError Instr :=
  let cmd : Byte := word.extractLsb' 0 8
  match mode with
  | .quad =>
    if cmd = c.write then .ok (.qwrite (frameAddr word) tail)
    else if cmd = c.read then .ok (.qread (frameAddr word) tail.length)
    else if cmd = c.rstio then .ok .rstioQ
    else .error (.wireByte mode cmd)
  | .dual =>
    if cmd = c.read then .ok (.dread (frameAddr word) tail.length)
    else if cmd = c.rstio then .ok .rstioD
    else .error (.wireByte mode cmd)
  | .any => if cmd = 0xFF then .ok .rstioAny else .error (.wireByte mode cmd)
  | .single =>
    if cmd = c.edio then .ok .edioS
    else if cmd = c.eqio then .ok .eqioS
    else .error (.wireByte mode cmd)

/-- An event: `code[4:0]` (R139). The operands are the model's own: EV_HOST_WR and EV_HOST_RD carry `h_wdata` in bits
23..8 and `h_addr` in bits 31..24, VSYNC_EVENT its kind in bit 8 and its `x` in bit 9. -/
def decodeEvent (word : BitVec 32) : Except DecodeError Instr :=
  match (word.extractLsb' 0 5).toNat with
  | 0x01 => .ok .evCsync
  | 0x02 => .ok .evVsync
  | 0x03 => .ok .evCmp
  | 0x04 => .ok .evRefTick
  | 0x05 => .ok .evGenLine
  | 0x06 => .ok .evReset
  | 0x07 => .ok (.evHostWr (word.extractLsb' 24 8) (word.extractLsb' 8 16))
  | 0x08 => .ok (.evHostRd (word.extractLsb' 24 8))
  | 0x09 => .ok .evXferDone
  | 0x0A => .ok .evPixStart
  | 0x0B => .ok .evStreamEnd
  | 0x10 => .ok .lineEvent
  | 0x11 => .ok (.vsyncEvent (if word.getLsbD 8 then .internal else .genuine) (word.getLsbD 9))
  | 0x12 => .ok .timeoutSwitch
  | _ => .error (.eventCode (word.extractLsb' 0 5))

/-- A `ZONE` value (R126). -/
def decodeZone (zone : BitVec 3) : Instr :=
  match zone.toNat with
  | 0 => .zonePreroll
  | 1 => .zoneSetup
  | 2 => .zoneModeswitch
  | 3 => .zoneActive
  | 4 => .zoneTeardown
  | 5 => .zoneReserved5
  | _ => .zoneReserved6 (zone.extractLsb' 0 1)

/-- The decoder: total, with a named error for a word that R146 says never occurs. Bits outside a format's width do not
exist on its port, so they are not looked at. `c` gives the command bytes, which are parameters (R136). -/
def decode (c : CmdBytes) (f : Fetch) : Except DecodeError Instr :=
  match f.port with
  | .hostreg => .ok (decodeHost (f.word.extractLsb' 0 25))
  | .fmcmd => .ok (decodeFmCmd (f.word.extractLsb' 0 4))
  | .wire mode => decodeWire c mode f.word f.tail
  | .event => decodeEvent f.word
  | .zone => .ok (decodeZone (f.word.extractLsb' 0 3))

/-- The HOSTREG access word `rw, addr, data` (R120, R147). -/
def hostWord (write : Bool) (a : RegAddr) (data : Word) : BitVec 25 := BitVec.ofBool write ++ a ++ data

/-- An operation on the host bus. -/
def hostFetch (write : Bool) (a : RegAddr) (data : Word) : Fetch :=
  { port := .hostreg, word := (hostWord write a data).setWidth 32, tail := [] }

/-- A write of `op` to FM_CMD. -/
def fmCmdFetch (op : BitVec 4) : Fetch :=
  { port := .fmcmd, word := op.setWidth 32, tail := [] }

/-- A wire frame of command byte, address and data bytes. -/
def wireFetch (mode : WireMode) (cmd : Byte) (a : FmAddr) (tail : List Byte) : Fetch :=
  { port := .wire mode, word := a.extractLsb' 0 8 ++ a.extractLsb' 8 8 ++ a.extractLsb' 16 8 ++ cmd, tail := tail }

/-- An event code with its operand bits. -/
def eventFetch (code : BitVec 5) (operand : BitVec 24) : Fetch :=
  { port := .event, word := operand ++ code.setWidth 8, tail := [] }

/-- A `ZONE` value at a line event. -/
def zoneFetch (zone : BitVec 3) : Fetch :=
  { port := .zone, word := zone.setWidth 32, tail := [] }

/-- The encoder: the words of an operation, from the same tables. The data bytes of a read frame are the device's, so
they stand as zeros. -/
def encode (c : CmdBytes) : Instr → Fetch
  | .rdCtrl => hostFetch false (addrOf .ctrl) 0
  | .wrCtrl data => hostFetch true (addrOf .ctrl) data
  | .rdVstat => hostFetch false (addrOf .vstat) 0
  | .wrVstat data => hostFetch true (addrOf .vstat) data
  | .rdVstatSet => hostFetch false (addrOf .vstatSet) 0
  | .wrVstatSet data => hostFetch true (addrOf .vstatSet) data
  | .rdVstatClr => hostFetch false (addrOf .vstatClr) 0
  | .wrVstatClr data => hostFetch true (addrOf .vstatClr) data
  | .rdLine => hostFetch false (addrOf .line) 0
  | .wrLine data => hostFetch true (addrOf .line) data
  | .rdLastCount => hostFetch false (addrOf .lastCount) 0
  | .wrLastCount data => hostFetch true (addrOf .lastCount) data
  | .rdField => hostFetch false (addrOf .field) 0
  | .wrField data => hostFetch true (addrOf .field) data
  | .rdElapsed => hostFetch false (addrOf .elapsed) 0
  | .wrElapsed data => hostFetch true (addrOf .elapsed) data
  | .rdIntPend => hostFetch false (addrOf .intPend) 0
  | .wrIntPend data => hostFetch true (addrOf .intPend) data
  | .rdIntEn => hostFetch false (addrOf .intEn) 0
  | .wrIntEn data => hostFetch true (addrOf .intEn) data
  | .rdFmAddrLo => hostFetch false (addrOf .fmAddrLo) 0
  | .wrFmAddrLo data => hostFetch true (addrOf .fmAddrLo) data
  | .rdFmAddrHi => hostFetch false (addrOf .fmAddrHi) 0
  | .wrFmAddrHi data => hostFetch true (addrOf .fmAddrHi) data
  | .rdFmLen => hostFetch false (addrOf .fmLen) 0
  | .wrFmLen data => hostFetch true (addrOf .fmLen) data
  | .rdFmCmd => hostFetch false (addrOf .fmCmd) 0
  | .wrFmCmd data => hostFetch true (addrOf .fmCmd) data
  | .rdFmStat => hostFetch false (addrOf .fmStat) 0
  | .wrFmStat data => hostFetch true (addrOf .fmStat) data
  | .rdFmWdata => hostFetch false (addrOf .fmWdata) 0
  | .wrFmWdata data => hostFetch true (addrOf .fmWdata) data
  | .rdFmBufptr => hostFetch false (addrOf .fmBufptr) 0
  | .wrFmBufptr data => hostFetch true (addrOf .fmBufptr) data
  | .rdFmRdata => hostFetch false (addrOf .fmRdata) 0
  | .wrFmRdata data => hostFetch true (addrOf .fmRdata) data
  | .rdOutResW => hostFetch false (addrOf .outResW) 0
  | .wrOutResW data => hostFetch true (addrOf .outResW) data
  | .rdOutResH => hostFetch false (addrOf .outResH) 0
  | .wrOutResH data => hostFetch true (addrOf .outResH) data
  | .rdDbgSr => hostFetch false (addrOf .dbgSr) 0
  | .wrDbgSr data => hostFetch true (addrOf .dbgSr) data
  | .rdDbgSrcnt => hostFetch false (addrOf .dbgSrcnt) 0
  | .wrDbgSrcnt data => hostFetch true (addrOf .dbgSrcnt) data
  | .rdDbgLastline => hostFetch false (addrOf .dbgLastline) 0
  | .wrDbgLastline data => hostFetch true (addrOf .dbgLastline) data
  | .rdDbgAddrLo => hostFetch false (addrOf .dbgAddrLo) 0
  | .wrDbgAddrLo data => hostFetch true (addrOf .dbgAddrLo) data
  | .rdDbgAddrHi => hostFetch false (addrOf .dbgAddrHi) 0
  | .wrDbgAddrHi data => hostFetch true (addrOf .dbgAddrHi) data
  | .rdP0Hsize => hostFetch false (addrOf .p0Hsize) 0
  | .wrP0Hsize data => hostFetch true (addrOf .p0Hsize) data
  | .rdP0Top => hostFetch false (addrOf .p0Top) 0
  | .wrP0Top data => hostFetch true (addrOf .p0Top) data
  | .rdP0Bot => hostFetch false (addrOf .p0Bot) 0
  | .wrP0Bot data => hostFetch true (addrOf .p0Bot) data
  | .rdP0Hoff => hostFetch false (addrOf .p0Hoff) 0
  | .wrP0Hoff data => hostFetch true (addrOf .p0Hoff) data
  | .rdP0Scan => hostFetch false (addrOf .p0Scan) 0
  | .wrP0Scan data => hostFetch true (addrOf .p0Scan) data
  | .rdP1Hsize => hostFetch false (addrOf .p1Hsize) 0
  | .wrP1Hsize data => hostFetch true (addrOf .p1Hsize) data
  | .rdP1Top => hostFetch false (addrOf .p1Top) 0
  | .wrP1Top data => hostFetch true (addrOf .p1Top) data
  | .rdP1Bot => hostFetch false (addrOf .p1Bot) 0
  | .wrP1Bot data => hostFetch true (addrOf .p1Bot) data
  | .rdP1Hoff => hostFetch false (addrOf .p1Hoff) 0
  | .wrP1Hoff data => hostFetch true (addrOf .p1Hoff) data
  | .rdP1Scan => hostFetch false (addrOf .p1Scan) 0
  | .wrP1Scan data => hostFetch true (addrOf .p1Scan) data
  | .reserved19 write data => hostFetch write 0x19 data
  | .reserved1A write low data => hostFetch write (0xD#7 ++ low) data
  | .reserved1C write low data => hostFetch write (0x7#6 ++ low) data
  | .reserved25 write data => hostFetch write 0x25 data
  | .reserved26 write low data => hostFetch write (0x13#7 ++ low) data
  | .reserved2D write data => hostFetch write 0x2D data
  | .reserved2E write low data => hostFetch write (0x17#7 ++ low) data
  | .reserved30 write low data => hostFetch write (0x3#4 ++ low) data
  | .reserved40 write low data => hostFetch write (0x1#2 ++ low) data
  | .reserved80 write low data => hostFetch write (0x1#1 ++ low) data
  | .fmNop => fmCmdFetch 0
  | .fmInit => fmCmdFetch 1
  | .fmWrite => fmCmdFetch 2
  | .fmRead => fmCmdFetch 3
  | .fmReserved4 low => fmCmdFetch (1#2 ++ low)
  | .fmReserved8 low => fmCmdFetch (1#1 ++ low)
  | .qwrite a data => wireFetch .quad c.write a data
  | .qread a count => wireFetch .quad c.read a (List.replicate count 0)
  | .dread a count => wireFetch .dual c.read a (List.replicate count 0)
  | .rstioQ => wireFetch .quad c.rstio 0 []
  | .rstioD => wireFetch .dual c.rstio 0 []
  | .rstioAny => wireFetch .any 0xFF 0 []
  | .edioS => wireFetch .single c.edio 0 []
  | .eqioS => wireFetch .single c.eqio 0 []
  | .evCsync => eventFetch 0x01 0
  | .evVsync => eventFetch 0x02 0
  | .evCmp => eventFetch 0x03 0
  | .evRefTick => eventFetch 0x04 0
  | .evGenLine => eventFetch 0x05 0
  | .evReset => eventFetch 0x06 0
  | .evHostWr a data => eventFetch 0x07 (a ++ data)
  | .evHostRd a => eventFetch 0x08 (a ++ 0#16)
  | .evXferDone => eventFetch 0x09 0
  | .evPixStart => eventFetch 0x0A 0
  | .evStreamEnd => eventFetch 0x0B 0
  | .lineEvent => eventFetch 0x10 0
  | .vsyncEvent kind value => eventFetch 0x11 (0#22 ++ BitVec.ofBool value ++ BitVec.ofBool (decide (kind = .internal)))
  | .timeoutSwitch => eventFetch 0x12 0
  | .zonePreroll => zoneFetch 0
  | .zoneSetup => zoneFetch 1
  | .zoneModeswitch => zoneFetch 2
  | .zoneActive => zoneFetch 3
  | .zoneTeardown => zoneFetch 4
  | .zoneReserved5 => zoneFetch 5
  | .zoneReserved6 low => zoneFetch (3#2 ++ low)

/-- The port of a table word, told from its width alone: a word of the table does not say its format, and up to eight
bits four formats share words. The event codes come first (they are what a step runs, R139), then the FM_CMD opcodes,
then the wire commands in the mode that sends them; a width of exactly 3, 4 or 5 bits names ZONE, FMCMD or EVENT. -/
def tablePort (nbits w : Nat) : Port :=
  if nbits ≤ 3 then .zone
  else if nbits = 4 then .fmcmd
  else if nbits = 5 then .event
  else if nbits ≤ 8 then
    if (1 ≤ w && w ≤ 0x0B) || (0x10 ≤ w && w ≤ 0x12) then .event
    else if w < 0x10 then .fmcmd
    else if w = 0xFF then .wire .any
    else .wire .single
  else if nbits ≤ 16 then .fmcmd
  else .hostreg

/-- The words of a table entry as they arrive: the table's bits in their places, every bit above them 0. -/
def tableFetch (nbits w : Nat) : Fetch :=
  { port := tablePort nbits w, word := BitVec.ofNat 32 w, tail := [] }

/-- The operation the decoder reads from a table word (bit 0 the least significant bit of the first byte), with the
default command bytes of R136. -/
def decodeTableWord (nbits w : Nat) : Option Instr :=
  match decode CmdBytes.default (tableFetch nbits w) with
  | .ok i => some i
  | .error _ => none

end Sys2Proof
end

