-- ==== Sys2Proof/Machine/State.lean ====
section
/-! DEFINITION. The machine's state as plain data: every state element of spec/10_state.md, grouped by the sub-block that
owns it, the environment's part (rules R8, R9, R43), the observations of R10, and the model's own fields (INVENTORY.md
names each). Reset values are those of spec/10_state.md. -/

namespace Sys2Proof.Machine

/-- The line-output zone (R33); its register values are R126's. -/
inductive Zone where
  | preroll
  | setup
  | modeswitch
  | active
  | teardown
  deriving DecidableEq, Repr

/-- FM_MODE (R37). -/
inductive FmMode where
  | unknown
  | quad
  | dual
  deriving DecidableEq, Repr

/-- XFER_KIND (R37). -/
inductive XferKind where
  | init
  | write
  | read
  deriving DecidableEq, Repr

/-- The result codes that are produced (R131; codes 7 to 15 are never produced). -/
inductive ErrCode where
  | ok
  | busy
  | xfer
  | len
  | badcmd
  | range
  | notready
  deriving DecidableEq, Repr

/-- The interrupt sources, in the order of their bit numbers 0 to 9 (R602). -/
inductive IntSrc where
  | vsync
  | lockLost
  | srcChg
  | busClaim
  | fieldDone
  | abort
  | clamp
  | cmdDone
  | cmdErr
  | overrun
  deriving DecidableEq, Repr

/-- CTRL (R22). -/
structure Ctrl where
  enable   : Bool
  outEn    : Bool
  /-- false: external-pulse path; true: comparator path -/
  syncMode : Bool
  /-- false: profile 0; true: profile 1 -/
  profSel  : Bool
  deriving DecidableEq, Repr

/-- VSTAT, the VideoStatus word (R23). -/
structure Vstat where
  /-- SYNC_SRC; true is external -/
  srcExt : Bool
  std    : Std
  actIn  : Bool
  vref0  : BitVec 4
  vref1  : BitVec 4
  deriving DecidableEq, Repr

/-- The line timing counter, the field parity tracker and the lock (R24 to R28). -/
structure Counters where
  line      : BitVec 16
  lastCount : BitVec 16
  /-- PARITY; true is the odd field -/
  parity    : Bool
  vlock     : Bool
  elapsed   : BitVec 16
  deriving DecidableEq, Repr

/-- The comparator edge decoder (R29) and the external-pulse filter (R30). The timestamps are numbers below
2^P_TS_W. -/
structure Detector where
  sr       : BitVec 16
  srCnt    : BitVec 5
  capLast  : Nat
  capValid : Bool
  csLast   : Nat
  csValid  : Bool
  deriving DecidableEq, Repr

/-- The reference timer (R31) and the internal generator (R32). The timestamps are numbers below 2^P_TS_W. -/
structure Generator where
  refNext : Nat
  running : Bool
  std     : Std
  line    : BitVec 10
  next    : Nat
  deriving DecidableEq, Repr

/-- The line-output engine and the pixel stream engine (R33 to R36). -/
structure LineOut where
  zone      : Zone
  busy      : Bool
  wBot      : BitVec 10
  wSel      : BitVec 3
  wHoff     : BitVec 16
  wScan     : Bool
  lastLine  : BitVec 16
  rw        : BitVec 16
  stride    : BitVec 17
  addr      : FmAddr
  hstart    : BitVec 17
  first     : Bool
  streaming : Bool
  pixDiv    : Nat
  deriving DecidableEq, Repr

/-- The frame memory and the transfer buffer as (address, byte) pairs. An address that is not listed holds no value
(R38, R43); `Memory.wf` in Ops.lean is the canonical form. -/
abbrev Memory := List Host.Cell

/-- The frame-memory arbiter and the host transaction parameters (R37, R38). -/
structure Arbiter where
  ready  : Bool
  mode   : FmMode
  xfer   : Bool
  kind   : XferKind
  err    : ErrCode
  fmAddr : FmAddr
  fmLen  : BitVec 9
  buf    : Memory
  bufPtr : BitVec 8
  deriving DecidableEq, Repr

/-- INT_PEND and INT_EN (R39), and the model's own record of the bits raised in the cycle `raisedAt`, which a
write-one-to-clear of that cycle leaves set (R603). -/
structure Interrupts where
  pend     : BitVec 10
  en       : BitVec 10
  raised   : BitVec 10
  raisedAt : Nat
  deriving DecidableEq, Repr

/-- One video profile (R40). -/
structure Profile where
  hsizeSel : BitVec 3
  top      : BitVec 10
  bot      : BitVec 10
  hoff     : BitVec 16
  scan     : Bool
  deriving DecidableEq, Repr

/-- The external frame-memory device (R43). `sio` is what drives `fm_sio_i` in the data clocks of read frames (R42, R608).
`out` is the model's own: the bytes that came in on `fm_sio_i` in the last read frame (R413). -/
structure Device where
  mem  : Memory
  mode : DevMode
  out  : List Byte
  sio  : SioSource
  deriving DecidableEq, Repr

/-- The registered output ports of R42 whose value no other state element gives. The rest are functions of the state
(Machine/Pins.lean). -/
structure Ports where
  hRdata   : Word
  syncOe   : Bool
  pixValid : Bool
  deriving DecidableEq, Repr

/-- A frame of R137, or the clock toggles of a mode switch with `fm_cs_n = 1` (R411, R412). -/
inductive Frame where
  | qwrite (addr : FmAddr) (data : List Byte)
  | qread (addr : FmAddr) (count : Nat)
  | dread (addr : FmAddr) (count : Nat)
  | rstioQ
  | rstioD
  | rstioAny
  | edioS
  | eqioS
  | toggles (count : Nat)
  deriving DecidableEq, Repr

/-- A frame sent on the wires: from cycle `start` up to but not including `stop`, one `fm_sck` clock per `div` cycles. In a
row read the data clocks start at `resume` (R313); in every other frame `resume = start`. -/
structure WireRec where
  frame  : Frame
  start  : Nat
  stop   : Nat
  div    : Nat
  resume : Nat
  deriving DecidableEq, Repr

/-- A `Row` record of R312; `streamed` is how many of its pixels have been streamed when the stream has ended or has
been cut (R313). -/
structure Row where
  line     : BitVec 16
  parity   : Bool
  addr     : FmAddr
  pixels   : List Pixel
  streamed : Nat
  deriving DecidableEq, Repr

/-- The value a host register read returned (R10 (b)). -/
structure HostRead where
  addr  : RegAddr
  value : Word
  deriving DecidableEq, Repr

/-- A low pulse of `sync_out`, from cycle `start` up to but not including `stop` (R213). -/
structure Pulse where
  start : Nat
  stop  : Nat
  deriving DecidableEq, Repr

/-- What a model observes (R10), each list newest first, and the frames sent since the last reset. -/
structure Trace where
  rows   : List Row
  reads  : List HostRead
  pulses : List Pulse
  frames : List WireRec
  deriving DecidableEq, Repr

/-- The scheduled events (R9, R401, R313) and the model's counter of draws. `clock` counts the cycles of `clk` since
power-up; a timestamp is `clock` modulo 2^P_TS_W. `xferMode` is DEV_MODE at the start of the transaction's frame (R413).
`xferDraw` is the draw an accepted command took at issue for bytes without a value, so that the frame on the wires and the
bytes moved agree. -/
structure Schedule where
  clock    : Nat
  xferDue  : Nat
  pixDue   : Nat
  endDue   : Nat
  xferDraw : Nat
  xferMode : DevMode
  draws    : Nat
  deriving DecidableEq, Repr

/-- The machine. `inputs` is what the environment will do; `held` is an operation that the next step runs before any
event is selected (only `State.withFetchWord` sets it). -/
structure State where
  cfg    : Cfg
  ctrl   : Ctrl
  vstat  : Vstat
  cnt    : Counters
  det    : Detector
  gen    : Generator
  loe    : LineOut
  arb    : Arbiter
  irq    : Interrupts
  prof0  : Profile
  prof1  : Profile
  dev    : Device
  ports  : Ports
  sched  : Schedule
  trace  : Trace
  inputs : List Stimulus
  held   : Option Fetch
  deriving DecidableEq, Repr

/-- Why the machine stops with a fault. -/
inductive Fault where
  /-- Raised by ZONE_RESERVED_5 and ZONE_RESERVED_6-7 while OUT_EN = 1: R300 has no case for these ZONE values, which
  "never occur" (R126, R146). SAFE: no state of the machine holds such a value, so no run reaches it. -/
  | zoneNeverProduced (zone : BitVec 3)
  deriving DecidableEq, Repr

/-- Why a step has no meaning. -/
inductive Refusal where
  /-- Raised by an arm of `exec` whose operation has no meaning yet (no arm is left so). SAFE. -/
  | notModelled (mnemonic : String)
  /-- Raised by `step` where the held word or the environment's frame has no operation: R146 says such a code or byte
  never occurs. SAFE. -/
  | undecodable (error : DecodeError)
  /-- Raised by `step` where no event is pending. R10: "A run ends when the host stops issuing accesses and no event is
  pending." SAFE. -/
  | noEventPending
  deriving DecidableEq, Repr

/-- CTRL after reset (R22): SYNC_MODE is 0 if P_HW_HAS_EXT_SYNC, else 1. -/
def Ctrl.atReset (c : Cfg) : Ctrl :=
  { enable := false, outEn := false, syncMode := !c.hasExtSync, profSel := false }

/-- VSTAT after reset (R23): external (acquiring), PAL, the rest 0. -/
def Vstat.atReset : Vstat := { srcExt := true, std := .pal, actIn := false, vref0 := 0, vref1 := 0 }

/-- R24 to R28. -/
def Counters.atReset : Counters := { line := 0, lastCount := 0, parity := false, vlock := false, elapsed := 0 }

/-- R29, R30. -/
def Detector.atReset : Detector :=
  { sr := 0, srCnt := 0, capLast := 0, capValid := false, csLast := 0, csValid := false }

/-- R31, R32. -/
def Generator.atReset : Generator := { refNext := 0, running := false, std := .pal, line := 0, next := 0 }

/-- R33 to R36. -/
def LineOut.atReset : LineOut :=
  { zone := .preroll, busy := false, wBot := 0, wSel := 0, wHoff := 0, wScan := false, lastLine := 0, rw := 0,
    stride := 0, addr := 0, hstart := 0, first := false, streaming := false, pixDiv := 0 }

/-- R37, R38. XFER_KIND has no stated reset value and nothing reads it while XFER = 0 (log entry 1). -/
def Arbiter.atReset : Arbiter :=
  { ready := false, mode := .unknown, xfer := false, kind := .init, err := .ok, fmAddr := 0, fmLen := 0, buf := [],
    bufPtr := 0 }

/-- R39. -/
def Interrupts.atReset : Interrupts := { pend := 0, en := 0, raised := 0, raisedAt := 0 }

/-- R40. -/
def Profile.atReset : Profile := { hsizeSel := 0, top := 0, bot := 0, hoff := 0, scan := false }

/-- R42. -/
def Ports.atReset : Ports := { hRdata := 0, syncOe := false, pixValid := false }

/-- The machine right after power-up and reset (R701, R702): every element at its reset value, the device in SINGLE
mode (R43) with no byte written, nothing scheduled. (`xferMode` is read only while XFER = 1, log entry 17.) -/
def State.reset : State :=
  { cfg := Config.params, ctrl := Ctrl.atReset Config.params, vstat := Vstat.atReset, cnt := Counters.atReset,
    det := Detector.atReset, gen := Generator.atReset, loe := LineOut.atReset, arb := Arbiter.atReset,
    irq := Interrupts.atReset, prof0 := Profile.atReset, prof1 := Profile.atReset,
    dev := { mem := [], mode := .single, out := [], sio := .device }, ports := Ports.atReset,
    sched := { clock := 0, xferDue := 0, pixDue := 0, endDue := 0, xferDraw := 0, xferMode := .single, draws := 0 },
    trace := { rows := [], reads := [], pulses := [], frames := [] }, inputs := [], held := none }

end Sys2Proof.Machine
end

