-- ==== Sys2Proof/Machine/Operands.lean ====
section
/-! DEFINITION. Operand forms: the register words that a host read assembles (spec/30_encoding.md R121 to R134), the
fields that a host write takes from its data, the profile in use, and the block's timestamps (R9, R29). -/

namespace Sys2Proof.Machine

/-- One bit as a word of one bit. -/
abbrev bit (b : Bool) : BitVec 1 := BitVec.ofBool b

/-- The value of ZONE in FIELD[4:2] (R126). -/
def zoneCode : Zone → BitVec 3
  | .preroll => 0
  | .setup => 1
  | .modeswitch => 2
  | .active => 3
  | .teardown => 4

/-- The value of ERR in FM_STAT[7:4] (R131). -/
def errBits : ErrCode → BitVec 4
  | .ok => 0
  | .busy => 1
  | .xfer => 2
  | .len => 3
  | .badcmd => 4
  | .range => 5
  | .notready => 6

/-- The STD bit (R23: 0 PAL, 1 NTSC). -/
def stdIsNtsc : Std → Bool
  | .pal => false
  | .ntsc => true

/-- The standard a STD bit names (R23). -/
def stdOf (ntsc : Bool) : Std := if ntsc then .ntsc else .pal

/-- CTRL as a word (R123). -/
def ctrlWord (s : State) : Word :=
  0#12 ++ bit s.ctrl.profSel ++ bit s.ctrl.syncMode ++ bit s.ctrl.outEn ++ bit s.ctrl.enable

/-- VSTAT as a word (R124). -/
def vstatWord (s : State) : Word :=
  0#4 ++ s.vstat.vref1 ++ s.vstat.vref0 ++ 0#1 ++ bit s.vstat.actIn ++ bit (stdIsNtsc s.vstat.std) ++ bit s.vstat.srcExt

/-- HMASK, the host-writable bits of VSTAT (R124). -/
def hmask : Word := 0x0FF4

/-- FIELD as a word (R126). -/
def fieldWord (s : State) : Word :=
  0#10 ++ bit s.loe.busy ++ zoneCode s.loe.zone ++ bit s.cnt.vlock ++ bit s.cnt.parity

/-- FM_STAT as a word (R132). -/
def fmStatWord (s : State) : Word :=
  0#8 ++ errBits s.arb.err ++ bit (decide (s.arb.mode = .dual)) ++ bit s.arb.ready ++ bit s.loe.busy ++ bit s.arb.xfer

/-- Profile `p` (R40). -/
def profile (p : Bool) (s : State) : Profile := if p then s.prof1 else s.prof0

/-- The profile that CTRL.PROF_SEL selects (R22). -/
def activeProfile (s : State) : Profile := profile s.ctrl.profSel s

/-- Entry `sel` of the width table; none when the selector is invalid (R143). -/
def xsizeEntry (c : Cfg) (sel : BitVec 3) : Option (Nat × Nat) := c.xsizes[sel.toNat]?

/-- The width P_XSIZE[sel] (R143). -/
def xsizeOf (c : Cfg) (sel : BitVec 3) : Nat := (c.xsizes.getD sel.toNat (0, 1)).1

/-- The divider P_PIXDIV[sel] (R143). -/
def pixDivOf (c : Cfg) (sel : BitVec 3) : Nat := (c.xsizes.getD sel.toNat (0, 1)).2

/-- L[VSTAT.STD], the total lines of the standard (R11, R13). -/
def totalLines (s : State) : Nat := s.cfg.lines.value s.vstat.std

/-- OUT_RES_W before its truncation to 16 bits (R314). -/
def outResW (s : State) : Nat :=
  match xsizeEntry s.cfg (activeProfile s).hsizeSel with
  | some e => e.1
  | none => 0

/-- OUT_RES_H before its truncation to 16 bits (R314); the subtraction on numbers stops at 0. -/
def outResH (s : State) : Nat :=
  (totalLines s - (activeProfile s).top.toNat - (activeProfile s).bot.toNat) * ((activeProfile s).scan.toNat + 1)

/-- The word a read of a register returns (R500 to R525). A write-only register reads 0 (R135). FM_RDATA is not here:
its read has a side effect and may be a draw (`readRdata` in Registers.lean). -/
def regWord (s : State) : Reg → Word
  | .ctrl => ctrlWord s
  | .vstat => vstatWord s
  | .vstatSet => 0
  | .vstatClr => 0
  | .line => s.cnt.line
  | .lastCount => s.cnt.lastCount
  | .field => fieldWord s
  | .elapsed => s.cnt.elapsed
  | .intPend => s.irq.pend.setWidth 16
  | .intEn => s.irq.en.setWidth 16
  | .fmAddrLo => s.arb.fmAddr.extractLsb' 0 16
  | .fmAddrHi => (s.arb.fmAddr.extractLsb' 16 8).setWidth 16
  | .fmLen => s.arb.fmLen.setWidth 16
  | .fmCmd => 0
  | .fmStat => fmStatWord s
  | .fmWdata => 0
  | .fmBufptr => s.arb.bufPtr.setWidth 16
  | .fmRdata => 0
  | .outResW => BitVec.ofNat 16 (outResW s)
  | .outResH => BitVec.ofNat 16 (outResH s)
  | .dbgSr => s.det.sr
  | .dbgSrcnt => s.det.srCnt.setWidth 16
  | .dbgLastline => s.loe.lastLine
  | .dbgAddrLo => s.loe.addr.extractLsb' 0 16
  | .dbgAddrHi => (s.loe.addr.extractLsb' 16 8).setWidth 16
  | .p0Hsize => s.prof0.hsizeSel.setWidth 16
  | .p0Top => s.prof0.top.setWidth 16
  | .p0Bot => s.prof0.bot.setWidth 16
  | .p0Hoff => s.prof0.hoff
  | .p0Scan => (bit s.prof0.scan).setWidth 16
  | .p1Hsize => s.prof1.hsizeSel.setWidth 16
  | .p1Top => s.prof1.top.setWidth 16
  | .p1Bot => s.prof1.bot.setWidth 16
  | .p1Hoff => s.prof1.hoff
  | .p1Scan => (bit s.prof1.scan).setWidth 16

/-- The modulus 2^P_TS_W of the timestamps (R9). -/
def stampModulus (c : Cfg) : Nat := 2 ^ c.tsW

/-- `now`, the timestamp of the event being handled (R13). -/
def now (s : State) : Nat := s.sched.clock % stampModulus s.cfg

/-- `(a − b) mod 2^P_TS_W` (R9, R205). -/
def stampDelta (c : Cfg) (a b : Nat) : Nat := (a + stampModulus c - b % stampModulus c) % stampModulus c

/-- `(now + n) mod 2^P_TS_W` (R210). -/
def stampAfter (s : State) (n : Nat) : Nat := (now s + n) % stampModulus s.cfg

end Sys2Proof.Machine
end

