-- ==== Sys2Proof/Machine/Flags.lean ====
section
/-! DEFINITION. The block's flags and how they are computed: the interrupt bits (spec/60_exceptions.md R602 to R604),
saturation, the classification of an interval (R141), the zones in which the bus is claimed (R45). -/

namespace Sys2Proof.Machine

/-- The bit number of an interrupt source (R602). -/
def intIndex : IntSrc → Nat
  | .vsync => 0
  | .lockLost => 1
  | .srcChg => 2
  | .busClaim => 3
  | .fieldDone => 4
  | .abort => 5
  | .clamp => 6
  | .cmdDone => 7
  | .cmdErr => 8
  | .overrun => 9

/-- The bit of an interrupt source in INT_PEND and INT_EN (R127, R602). -/
def intBit (n : IntSrc) : BitVec 10 := BitVec.twoPow 10 (intIndex n)

/-- The bits raised so far in the cycle of the event being handled. -/
def raisedThisCycle (s : State) : BitVec 10 := if s.irq.raisedAt = s.sched.clock then s.irq.raised else 0

/-- `irq = OR over n of (INT_PEND[n] AND INT_EN[n])` (R604). -/
def irqLevel (s : State) : Bool := decide (s.irq.pend &&& s.irq.en ≠ 0)

/-- `sat16(e + 1)` (R13, R210). -/
def satSucc16 (e : BitVec 16) : BitVec 16 := BitVec.ofNat 16 (min (e.toNat + 1) 0xFFFF)

/-- `min(c + 1, 16)` (R207). -/
def satSucc5 (c : BitVec 5) : BitVec 5 := BitVec.ofNat 5 (min (c.toNat + 1) 16)

/-- The class of an accepted interval (R141): `some false` is SHORT (bit 0), `some true` is LONG (bit 1), `none` is
OUT. -/
def classOf (c : Cfg) (delta : Nat) : Option Bool :=
  if c.shortMin ≤ delta ∧ delta ≤ c.shortMax then some false
  else if c.longMin ≤ delta ∧ delta ≤ c.longMax then some true
  else none

/-- `|delta − P_LINE_IVL| ≤ P_LINE_TOL` (R209, inclusive). -/
def withinLineTol (c : Cfg) (delta : Nat) : Bool :=
  decide (delta ≤ c.lineIvl + c.lineTol) && decide (c.lineIvl ≤ delta + c.lineTol)

/-- `ZONE ∈ {SETUP, MODESWITCH, ACTIVE}`, the zones in which LOE owns the bus (R45). -/
def zoneBusy : Zone → Bool
  | .preroll => false
  | .setup => true
  | .modeswitch => true
  | .active => true
  | .teardown => false

/-- The standard of an ended field of `lines` lines (R203: PAL at or above P_STD_LINE_THRESHOLD). -/
def stdOfCount (c : Cfg) (lines : BitVec 16) : Std := if c.stdLineThreshold ≤ lines.toNat then .pal else .ntsc

end Sys2Proof.Machine
end

