-- ==== Sys2Proof/Machine/Ops.lean ====
section
/-! DEFINITION. The shared operations: the memories, the frame-memory device, the draws, the interrupts and the command
error (the block's whole exception mechanism, spec/60_exceptions.md), the frames on the wires and the pulses of
`sync_out`. -/

namespace Sys2Proof.Machine

/-! ### Memory (R81, R84, R38, R43) -/

/-- The byte at an address; none where nothing has been written (R38, R43: it has no value). -/
def memRead : Memory → Nat → Option Byte
  | [], _ => none
  | (k, v) :: rest, a => if k = a then some v else memRead rest a

/-- Store one byte; the list stays in rising order of addresses. -/
def memWrite : Memory → Nat → Byte → Memory
  | [], a, b => [(a, b)]
  | (k, v) :: rest, a, b =>
    if a < k then (a, b) :: (k, v) :: rest
    else if a = k then (a, b) :: rest
    else (k, v) :: memWrite rest a b

/-- The bytes of `[lo, lo + n)` lose their value: they become draws (R700). -/
def memForget (m : Memory) (lo n : Nat) : Memory :=
  m.filter (fun c => !(decide (lo ≤ c.1) && decide (c.1 < lo + n)))

/-- `MemWrite(a, n, v)` over a memory of `size` bytes: byte i goes to `(a + i) mod size` (R13, R84). -/
def memWriteBytes (size : Nat) : Memory → Nat → List Byte → Memory
  | m, _, [] => m
  | m, a, b :: rest => memWriteBytes size (memWrite m (a % size) b) (a + 1) rest

/-- The canonical form: addresses strictly rising. (An unlisted address has no value, so no entry can equal it.) -/
def Memory.wf : Memory → Bool
  | [] => true
  | [_] => true
  | (a, _) :: (b, y) :: rest => decide (a < b) && Memory.wf ((b, y) :: rest)

/-- Every listed address is below `size`. -/
def memWithin (size : Nat) (m : Memory) : Bool := m.all (fun c => decide (c.1 < size))

/-- `MemRead(a, n)` over a memory of `size` bytes; a byte without a value is byte i of draw `k` (R13, R84, R43). -/
def memReadBytes (size k : Nat) (m : Memory) (a n : Nat) : List Byte :=
  (List.range n).map (fun i => (memRead m ((a + i) % size)).getD (Config.drawByte k i))

/-- The next draw is a new one. -/
def nextDraw (s : State) : State := { s with sched := { s.sched with draws := s.sched.draws + 1 } }

/-! ### Interrupts and command errors (R601 to R606) -/

/-- `raise Interrupt(n)` (R603): set the pending bit; nothing is saved, masked or switched (R605). -/
def raiseInt (n : IntSrc) (s : State) : State :=
  { s with irq := { s.irq with pend := s.irq.pend ||| intBit n,
                               raised := raisedThisCycle s ||| intBit n, raisedAt := s.sched.clock } }

/-- The acknowledge (R606, R508): clear the written bits, except those raised in the same cycle (R603: "a raise in the
same cycle as a W1C of the same bit leaves the bit 1"). -/
def ackInt (v : BitVec 10) (s : State) : State :=
  { s with irq := { s.irq with pend := s.irq.pend &&& ~~~(v &&& ~~~(raisedThisCycle s)) } }

/-- `raise CmdError(code)` (R601). -/
def cmdError (code : ErrCode) (s : State) : State :=
  raiseInt .cmdErr { s with arb := { s.arb with err := code } }

/-! ### The frame-memory device (R413) -/

/-- The effect of a frame sent in a mode other than DEV_MODE: "DEV_MODE and every FM byte become draws". -/
def devScramble (s : State) : State :=
  nextDraw { s with dev := { s.dev with mem := [], mode := Config.drawMode s.sched.draws } }

/-- RSTIO in any mode: DEV_MODE <- SINGLE. -/
def devRstio (s : State) : State := { s with dev := { s.dev with mode := .single } }

/-- EDIO_S (`m` = DUAL) or EQIO_S (`m` = QUAD), which the device takes in SINGLE. -/
def devEnter (m : DevMode) (s : State) : State :=
  if s.dev.mode = .single then { s with dev := { s.dev with mode := m } } else devScramble s

/-- QWRITE, which the device takes in QUAD; `start` is DEV_MODE at the frame's start. -/
def devWrite (start : DevMode) (a : FmAddr) (data : List Byte) (s : State) : State :=
  if start = .quad then
    { s with dev := { s.dev with mem := memWriteBytes s.cfg.fmBytes s.dev.mem a.toNat data } }
  else devScramble s

/-- The level of `fm_sio_i` in data clock `j` when something drives it in the device's place (R42, R608). -/
def sourceLine (k : Nat) (levels : List (BitVec 4)) (j : Nat) : BitVec 4 :=
  levels.getD j ((Config.drawByte k j).extractLsb' 0 4)

/-- Data byte `i` of a quad or dual read frame as those levels make it: two clocks of four bits on SIO3..SIO0, or four of
two bits on SIO1, SIO0, most significant bits first (R137). -/
def sourceByte (m : DevMode) (k : Nat) (levels : List (BitVec 4)) (i : Nat) : Byte :=
  if m = .quad then sourceLine k levels (2 * i) ++ sourceLine k levels (2 * i + 1)
  else
    (sourceLine k levels (4 * i)).extractLsb' 0 2 ++ (sourceLine k levels (4 * i + 1)).extractLsb' 0 2 ++
      (sourceLine k levels (4 * i + 2)).extractLsb' 0 2 ++ (sourceLine k levels (4 * i + 3)).extractLsb' 0 2

/-- The bytes that come in on `fm_sio_i` in a QREAD (`m` = QUAD) or DREAD (`m` = DUAL) that started in mode `start`, with
the bytes of draw `k` where there is no value. The device returns draws in another mode (R413). -/
def devReadBytes (start m : DevMode) (k : Nat) (a : FmAddr) (n : Nat) (s : State) : List Byte :=
  match s.dev.sio with
  | .lines levels => (List.range n).map (sourceByte m k levels)
  | .device =>
    if start = m then memReadBytes s.cfg.fmBytes k s.dev.mem a.toNat n else (List.range n).map (Config.drawByte k)

/-- QREAD (`m` = QUAD) or DREAD (`m` = DUAL): the bytes come in, and in the device's own mode nothing else changes. -/
def devRead (start m : DevMode) (k : Nat) (a : FmAddr) (n : Nat) (s : State) : State :=
  let t := { s with dev := { s.dev with out := devReadBytes start m k a n s } }
  if start = m then t else devScramble t

/-! ### Frames on the wires (R137, R414) -/

/-- The clocks C of a frame (R137, R414). -/
def frameClocks (c : Cfg) : Frame → Nat
  | .qwrite _ data => 8 + 2 * data.length
  | .qread _ count => 8 + c.dummyQuad + 2 * count
  | .dread _ count => 16 + c.dummyDual + 4 * count
  | .rstioQ => 2
  | .rstioD => 4
  | .rstioAny => 8
  | .edioS => 8
  | .eqioS => 8
  | .toggles count => count

/-- Put a frame on the record of the wires. -/
def pushFrame (r : WireRec) (s : State) : State :=
  { s with trace := { s.trace with frames := r :: s.trace.frames } }

/-- Frames and toggles that run back to back from cycle `t` at `clk / P_FM_SCK_DIV`, in the durations of R411, R412 and R730.
The period with `fm_cs_n = 1` between two frames is counted in neither (R414); `selectedAt` in Pins.lean gives it. -/
def sendFrames : Nat → List Frame → State → State
  | _, [], s => s
  | t, f :: rest, s =>
    sendFrames (t + frameClocks s.cfg f * s.cfg.fmSckDiv) rest
      (pushFrame { frame := f, start := t, stop := t + frameClocks s.cfg f * s.cfg.fmSckDiv,
                   div := s.cfg.fmSckDiv, resume := t } s)

/-- The clocks of a list of frames. -/
def totalClocks (c : Cfg) (l : List Frame) : Nat := (l.map (frameClocks c)).sum

/-- End a frame at cycle `clock` at the latest. -/
def WireRec.cutAt (clock : Nat) (r : WireRec) : WireRec :=
  if r.stop ≤ clock then r else { r with stop := max r.start clock }

/-- `fm_cs_n <- 1; fm_sio_oe <- 0x0`: no frame is on the wires any more (R410, R313). -/
def releaseWires (s : State) : State :=
  { s with trace := { s.trace with frames := s.trace.frames.map (WireRec.cutAt s.sched.clock) } }

/-! ### Pulses of `sync_out` (R213) -/

/-- `sync_out <- 1`: a running pulse ends now, and one that has not begun never does. -/
def cutPulses (clock : Nat) : List Pulse → List Pulse
  | [] => []
  | p :: rest =>
    if p.stop ≤ clock then p :: cutPulses clock rest
    else if p.start < clock then { p with stop := clock } :: cutPulses clock rest
    else cutPulses clock rest

/-- `sync_out <- 1`. -/
def syncOutHigh (s : State) : State :=
  { s with trace := { s.trace with pulses := cutPulses s.sched.clock s.trace.pulses } }

/-- A low pulse of `width` cycles from `start`; none of width 0. -/
def pushPulse (start width : Nat) (l : List Pulse) : List Pulse :=
  if width = 0 then l else { start := start, stop := start + width } :: l

end Sys2Proof.Machine
end

