-- ==== Sys2Proof/Machine/LineOutput.lean ====
section
/-! DEFINITION. The line-output zone machine, the pixel stream engine and the mode-switch sub-routines
(spec/42_line_output.md R300 to R313, spec/43_frame_memory.md R411 and R412). -/

namespace Sys2Proof.Machine

/-! ### Pixel stream (R312, R313) -/

/-- The four pixels of a byte, most significant pair first (R140). -/
def unpackByte (b : Byte) : List Pixel :=
  [b.extractLsb' 6 2, b.extractLsb' 4 2, b.extractLsb' 2 2, b.extractLsb' 0 2]

/-- `Unpack(bytes)` (R312). -/
def unpack (bytes : List Byte) : List Pixel := bytes.flatMap unpackByte

/-- H, the cycles of a row read's command, address and dummy clocks (R313). -/
def headerCycles (s : State) : Nat := (16 + s.cfg.dummyDual) * s.loe.pixDiv

/-- `t_pix = t0 + max(HSTART, H)` (R313), with t0 the cycle of the line event. -/
def pixStartAt (s : State) : Nat := s.sched.clock + max s.loe.hstart.toNat (headerCycles s)

/-- `t_end = t_pix + 4·RW·PIX_DIV` (R313). -/
def pixEndAt (s : State) : Nat := pixStartAt s + 4 * s.loe.rw.toNat * s.loe.pixDiv

/-- `StartStream(now)` (R313): the DREAD frame is on the wires and its two events are scheduled. DESIGN CHOICE: right after
an OVERRUN cut it starts in the cut's own cycle, as R313 times it, and `fm_cs_n` is 1 for the first cycles of its first clock
(R414; `selectedAt` in Pins.lean, log entry 18). -/
def startStream (s : State) : State :=
  pushFrame { frame := .dread s.loe.addr s.loe.rw.toNat, start := s.sched.clock, stop := pixEndAt s,
              div := s.loe.pixDiv, resume := pixStartAt s }
    { s with loe := { s.loe with streaming := true }, ports := { s.ports with pixValid := false },
             sched := { s.sched with pixDue := pixStartAt s, endDue := pixEndAt s } }

/-- How many pixels of the running stream have been streamed by now: one per PIX_DIV cycles from t_pix. -/
def pixelsStreamed (s : State) : Nat :=
  min ((s.sched.clock - s.sched.pixDue) / s.loe.pixDiv) (4 * s.loe.rw.toNat)

/-- Write the number of streamed pixels into the newest row record (R313). -/
def markStreamed (n : Nat) : List Row → List Row
  | [] => []
  | r :: rest => { r with streamed := n } :: rest

/-- The end of a stream, with `n` pixels streamed: `fm_cs_n <- 1`, `pix_valid <- 0`, `STREAMING <- 0` (R313). -/
def stopStream (n : Nat) (s : State) : State :=
  releaseWires { s with loe := { s.loe with streaming := false }, ports := { s.ports with pixValid := false },
                        trace := { s.trace with rows := markStreamed n s.trace.rows } }

/-- `CutStream(irq)` (R313): "the same end actions at once"; `overrun` is `irq = OVERRUN`. -/
def cutStream (overrun : Bool) (s : State) : State :=
  if overrun then raiseInt .overrun (stopStream (pixelsStreamed s) s) else stopStream (pixelsStreamed s) s

/-- `EmitRow(n)` (R312): read the row at ADDR, record it and start its stream. (A mode switch whose frames are still on the
wires loses them to the new frame, log entry 28.) -/
def emitRow (s : State) : State :=
  let t := devRead s.dev.mode .dual s.sched.draws s.loe.addr s.loe.rw.toNat (nextDraw s)
  startStream { t with trace := { t.trace with
    rows := { line := s.cnt.line, parity := s.cnt.parity, addr := s.loe.addr, pixels := unpack t.dev.out,
              streamed := 0 } :: t.trace.rows } }

/-! ### Mode switches (R411, R412) -/

/-- `QuadToDual()` (R411). -/
def quadToDual (s : State) : State :=
  let t := sendFrames s.sched.clock [.rstioQ, .toggles s.cfg.msExtra, .edioS] (devEnter .dual (devRstio s))
  { t with arb := { t.arb with mode := .dual } }

/-- `DualToQuad()` (R412). -/
def dualToQuad (s : State) : State :=
  let t := sendFrames s.sched.clock [.rstioD, .toggles s.cfg.msExtra, .eqioS] (devEnter .quad (devRstio s))
  { t with arb := { t.arb with mode := .quad } }

/-! ### Zones (R301 to R307) -/

/-- The sum `W_HOFF + P_HSTART_COMP(first, VLOCK, VSTAT.SYNC_SRC)` (R303, R304). -/
def hstartSum (first : Bool) (s : State) : Nat := s.loe.wHoff.toNat + s.cfg.comp first s.cnt.vlock s.vstat.srcExt

/-- HSTART: the sum; a sum that 17 bits cannot hold is a free value (log entry 5). -/
def hstartFor (first : Bool) (s : State) : BitVec 17 :=
  if hstartSum first s < 2 ^ 17 then BitVec.ofNat 17 (hstartSum first s) else Config.hstartOver (hstartSum first s)

/-- `lim <- max(L[VSTAT.STD] − W_BOT, 0)` for the profile being latched (R302). -/
def lineLimit (s : State) : Nat := totalLines s - (activeProfile s).bot.toNat

/-- RW of the selected width (R302). -/
def rowBytes (s : State) : BitVec 16 := BitVec.ofNat 16 (xsizeOf s.cfg (activeProfile s).hsizeSel / 4)

/-- The setup zone's writes to the line-output engine (R302). -/
def setupLoe (s : State) : LineOut :=
  { s.loe with
    wSel := (activeProfile s).hsizeSel, wBot := (activeProfile s).bot, wHoff := (activeProfile s).hoff,
    wScan := (activeProfile s).scan,
    lastLine := BitVec.ofNat 16 (min (lineLimit s) s.cnt.lastCount.toNat),
    rw := rowBytes s, pixDiv := pixDivOf s.cfg (activeProfile s).hsizeSel,
    stride := if (activeProfile s).scan then BitVec.ofNat 17 (2 * (rowBytes s).toNat)
              else (rowBytes s).setWidth 17,
    addr := if (activeProfile s).scan && !s.cnt.parity then (rowBytes s).setWidth 24 else 0,
    busy := true, zone := .setup }

/-- `Setup(p)` with p = CTRL.PROF_SEL (R302). -/
def setupZone (s : State) : State :=
  raiseInt .busClaim
    { (if s.cnt.lastCount.toNat < lineLimit s then raiseInt .clamp s else s) with loe := setupLoe s }

/-- The condition on which the pre-roll zone runs the setup (R301). -/
def setupReady (s : State) : Bool :=
  decide (3 ≤ (activeProfile s).top.toNat) && decide (s.cnt.line.toNat = (activeProfile s).top.toNat - 2) &&
    s.arb.ready && decide ((activeProfile s).hsizeSel.toNat < s.cfg.xsizes.length)

/-- `PrerollStep(n)` (R301). -/
def prerollStep (s : State) : State := if setupReady s then setupZone s else s

/-- `Teardown(switched)` (R305). -/
def teardown (switched : Bool) (s : State) : State :=
  let t := if switched then dualToQuad s else s
  raiseInt .fieldDone { t with loe := { t.loe with busy := false, zone := .teardown } }

/-- `SwitchStep(n)` (R303). -/
def switchStep (s : State) : State :=
  if s.loe.lastLine.toNat ≤ s.cnt.line.toNat then teardown false s
  else if s.arb.xfer then s
  else
    { quadToDual s with
      loe := { s.loe with first := true, hstart := hstartFor true s, zone := .modeswitch } }

/-- `ActiveStep(n)` (R304). -/
def activeStep (s : State) : State :=
  if s.loe.lastLine.toNat ≤ s.cnt.line.toNat then teardown true s
  else
    { emitRow s with
      loe := { (emitRow s).loe with
        addr := s.loe.addr + s.loe.stride.setWidth 24, first := false, hstart := hstartFor false s, zone := .active } }

/-- `AbortTeardown()` (R306). DESIGN CHOICE: where it cuts a row read, RSTIO_D starts in the cut's own cycle, and `fm_cs_n`
is 1 for the first cycles of its first clock (R414; `selectedAt` in Pins.lean, log entry 18). -/
def abortTeardown (s : State) : State :=
  let t := if s.loe.streaming then cutStream false s else s
  let u := if t.arb.mode = .dual then dualToQuad t else t
  raiseInt .abort { u with loe := { u.loe with busy := false, zone := .preroll } }

/-- The zone rule that R300 dispatches to. -/
def zoneStep : Zone → State → State
  | .preroll, s => prerollStep s
  | .setup, s => switchStep s
  | .modeswitch, s => activeStep s
  | .active, s => activeStep s
  | .teardown, s => s

/-- R300's two tests before the dispatch, then the rule of zone `z`. -/
def loeStepIn (z : Zone) (s : State) : State :=
  if s.ctrl.outEn then zoneStep z (if s.loe.streaming then cutStream true s else s) else s

/-- `LOE_Step(LINE)` (R300): the zone is decoded from the current ZONE. -/
def loeStep (s : State) : State := loeStepIn s.loe.zone s

end Sys2Proof.Machine
end

