-- ==== Sys2Proof/Machine/Sync.lean ====
section
/-! DEFINITION. The sync detector, the line timing counter, the field parity tracker, the reference timer and the
internal generator (spec/41_sync_detector.md R200 to R218). -/

namespace Sys2Proof.Machine

/-- `LineEvent()` (R204). -/
def lineEvent (s : State) : State := loeStep { s with cnt := { s.cnt with line := s.cnt.line + 1 } }

/-- The genuine part of a vertical sync event (R214): STD, ELAPSED, VLOCK, the end of internal sync, PARITY. -/
def genuineSync (ntsc : Bool) (s : State) : State :=
  let t := { s with vstat := { s.vstat with std := stdOf ntsc },
                    cnt := { s.cnt with elapsed := 0, vlock := true, parity := !s.cnt.parity } }
  if s.vstat.srcExt then t
  else
    raiseInt .srcChg
      (syncOutHigh { t with vstat := { t.vstat with srcExt := true }, gen := { t.gen with running := false },
                            ports := { t.ports with syncOe := false } })

/-- The start of a field: LAST_COUNT, LINE and ZONE (R214). -/
def fieldStart (s : State) : State :=
  let t := if s.ctrl.outEn && zoneBusy s.loe.zone then abortTeardown s else s
  { t with cnt := { t.cnt with lastCount := t.cnt.line, line := 0 },
           loe := { t.loe with zone := if t.loe.zone = .teardown then .preroll else t.loe.zone } }

/-- `VerticalSyncEvent(kind, x)` (R214): for GENUINE, `x` true is NTSC; for INTERNAL, `x` is the new parity. -/
def verticalSync (kind : SyncKind) (x : Bool) (s : State) : State :=
  raiseInt .vsync
    (match kind with
     | .genuine => genuineSync x (fieldStart s)
     | .internal => { fieldStart s with cnt := { (fieldStart s).cnt with parity := x } })

/-! ### Internal generator (R211 to R213) -/

/-- `SyncPulses(GEN_LINE, now)` (R213): the pulses of one generated line; `sync_out` is 1 at all its other times. -/
def syncPulses (s : State) : State :=
  let clks := s.cfg.genLineClks.value s.gen.std
  let slots := (s.cfg.genTable s.gen.std).slots s.gen.line.toNat
  { s with trace := { s.trace with
      pulses := pushPulse (s.sched.clock + clks / 2) (s.cfg.slotWidth s.gen.std slots.2)
        (pushPulse s.sched.clock (s.cfg.slotWidth s.gen.std slots.1) (cutPulses s.sched.clock s.trace.pulses)) } }

/-- The start of the generator (R211, R218): the odd field's start line of the last detected standard. -/
def startGenerator (s : State) : State :=
  { s with gen := { s.gen with running := true, std := s.vstat.std,
                               line := BitVec.ofNat 10 (s.cfg.genTable s.vstat.std).field1,
                               next := stampAfter s (s.cfg.genLineClks.value s.vstat.std) },
           ports := { s.ports with syncOe := true } }

/-- What R211 does once the generator has been started: an internal vertical sync (odd field), a line event and the
line's pulses. -/
def firstGenLine (s : State) : State := syncPulses (lineEvent (verticalSync .internal true s))

/-- `TimeoutSwitch()` (R211). -/
def timeoutSwitch (s : State) : State :=
  firstGenLine (startGenerator (raiseInt .srcChg
    { s with vstat := { s.vstat with srcExt := false }, cnt := { s.cnt with vlock := false } }))

/-- The restart of the generator when EN goes 0→1 while sync is internal: "as in rule R211 without raising SRC_CHG"
(R218). -/
def restartGenerator (s : State) : State :=
  firstGenLine (startGenerator { s with cnt := { s.cnt with vlock := false } })

/-- `EV_GEN_LINE` (R212). -/
def genLineEvent (s : State) : State :=
  if s.ctrl.enable && s.gen.running then
    let line := s.gen.line.toNat % frameLines s.gen.std + 1
    let t := { s with gen := { s.gen with next := stampAfter s (s.cfg.genLineClks.value s.gen.std),
                                          line := BitVec.ofNat 10 line } }
    let table := s.cfg.genTable s.gen.std
    syncPulses (lineEvent
      (if line = table.field1 then verticalSync .internal true t
       else if line = table.field2 then verticalSync .internal false t
       else t))
  else s

/-- `EV_REF_TICK` (R210). -/
def refTickEvent (s : State) : State :=
  if s.ctrl.enable then
    let t := { s with gen := { s.gen with refNext := stampAfter s s.cfg.refPeriod },
                      cnt := { s.cnt with elapsed := satSucc16 s.cnt.elapsed } }
    if s.vstat.srcExt && decide (s.cfg.intTimeout ≤ t.cnt.elapsed.toNat) then timeoutSwitch t else t
  else s

/-! ### External-pulse path (R202, R203) -/

/-- Whether a csync edge is closer to the last accepted one than P_EXT_MIN_DELTA (R202). -/
def csyncNoise (s : State) : Bool :=
  s.det.csValid && decide (stampDelta s.cfg (now s) s.det.csLast < s.cfg.extMinDelta)

/-- `EV_CSYNC` (R202). -/
def csyncEvent (s : State) : State :=
  if s.ctrl.enable && !s.ctrl.syncMode then
    if csyncNoise s then s
    else
      let t := { s with det := { s.det with csLast := now s, csValid := true } }
      if s.vstat.srcExt then lineEvent t else t
  else s

/-- `EV_VSYNC` (R203). -/
def vsyncEvent (s : State) : State :=
  if s.ctrl.enable && !s.ctrl.syncMode then
    verticalSync .genuine (stdIsNtsc (stdOfCount s.cfg s.cnt.line)) s
  else s

/-! ### Comparator path (R205 to R209) -/

/-- `Classify(delta)` (R207, R141). -/
def classify (delta : Nat) (s : State) : State :=
  match classOf s.cfg delta with
  | some long =>
    { s with det := { s.det with sr := s.det.sr.shiftLeft 1 ||| (bit long).setWidth 16,
                                 srCnt := satSucc5 s.det.srCnt } }
  | none => { s with det := { s.det with sr := 0, srCnt := 0 } }

/-- `MatchPattern()` (R208). -/
def matchPattern (s : State) : State :=
  let t := { s with det := { s.det with srCnt := 0 } }
  if s.det.srCnt.toNat = 16 ∧ s.det.sr = s.cfg.patPal then verticalSync .genuine false t
  else if s.det.srCnt.toNat = 16 ∧ s.det.sr = s.cfg.patNtsc then verticalSync .genuine true t
  else s

/-- Lock loss (R205, R209): `VLOCK <- 0`, LOCK_LOST, and with P_CLEAR_SR_ON_LOCK_LOSS a clean register. -/
def loseLock (s : State) : State :=
  let t := raiseInt .lockLost { s with cnt := { s.cnt with vlock := false } }
  if s.cfg.clearSrOnLockLoss then { t with det := { t.det with sr := 0, srCnt := 0 } } else t

/-- An accepted comparator edge after its classification (R205): a line, or the search for a pattern. -/
def acceptedEdge (delta : Nat) (s : State) : State :=
  if s.cnt.vlock then
    if withinLineTol s.cfg delta then lineEvent s else matchPattern (loseLock s)
  else matchPattern s

/-- `EV_CMP` (R205). -/
def cmpEvent (s : State) : State :=
  if s.ctrl.enable && s.ctrl.syncMode then
    let stamped := { s with det := { s.det with capLast := now s, capValid := true } }
    if s.det.capValid then
      let delta := stampDelta s.cfg (now s) s.det.capLast
      if delta < s.cfg.settle then s
      else if delta < s.cfg.minDelta then s
      else acceptedEdge delta (classify delta stamped)
    else stamped
  else s

/-! ### Effects of CTRL writes (R218) -/

/-- The effects of a SYNC_MODE change (R218). -/
def syncModeEffects (s : State) : State :=
  { s with det := { s.det with sr := 0, srCnt := 0, capValid := false, csValid := false },
           cnt := { s.cnt with vlock := false } }

/-- The effects of EN 1→0 (R218). -/
def disableEffects (s : State) : State :=
  let t := syncModeEffects s
  let u := if zoneBusy t.loe.zone then abortTeardown t else t
  syncOutHigh { u with gen := { u.gen with running := false }, ports := { u.ports with syncOe := false } }

/-- The effects of EN 0→1 (R218, R31). -/
def enableEffects (s : State) : State :=
  let t := { s with gen := { s.gen with refNext := stampAfter s s.cfg.refPeriod } }
  if s.vstat.srcExt then t else restartGenerator t

end Sys2Proof.Machine
end

