-- ==== Sys2Proof/Machine/Transfer.lean ====
section
/-! DEFINITION. The frame-memory arbiter's host commands (spec/43_frame_memory.md R401 to R410) and the events of the
pixel stream (spec/42_line_output.md R313). -/

namespace Sys2Proof.Machine

/-- The bytes `BUF[0..FM_LEN−1]`; a byte the host never wrote is byte i of draw `k` (R407, R38). -/
def bufBytes (k : Nat) (s : State) : List Byte := memReadBytes s.cfg.bufDepth k s.arb.buf 0 s.arb.fmLen.toNat

/-- R403's checks of an INIT, WRITE or READ, in their order: the first that fails gives the code. -/
def issueError (k : XferKind) (s : State) : Option ErrCode :=
  if s.arb.xfer then some .xfer
  else if s.loe.busy then some .busy
  else if k = .init then none
  else if !s.arb.ready then some .notready
  else if s.arb.fmLen.toNat = 0 ∨ s.cfg.bufDepth < s.arb.fmLen.toNat then some .len
  else if s.cfg.fmBytes < s.arb.fmAddr.toNat + s.arb.fmLen.toNat then some .range
  else none

/-- The frames of an accepted command (R406, R407, R408). -/
def commandFrames (k : XferKind) (s : State) : List Frame :=
  match k with
  | .init => [.rstioAny, .eqioS]
  | .write => [.qwrite s.arb.fmAddr (bufBytes s.sched.draws s)]
  | .read => [.qread s.arb.fmAddr s.arb.fmLen.toNat]

/-- The issue step of an accepted command (R401, R403): its completion is due after C·P_FM_SCK_DIV cycles, and its frame
starts in the mode the device is in (R413). DESIGN CHOICE: it is accepted, and its frames start at once, also while the
frames of a mode switch are still on the wires (R403 checks BUSY alone; R400 says that the two cannot overlap; log entry
28). -/
def startTransfer (k : XferKind) (s : State) : State :=
  sendFrames s.sched.clock (commandFrames k s)
    (nextDraw { s with
      arb := { s.arb with err := .ok, xfer := true, kind := k },
      sched := { s.sched with
        xferDue := s.sched.clock + totalClocks s.cfg (commandFrames k s) * s.cfg.fmSckDiv,
        xferDraw := s.sched.draws, xferMode := s.dev.mode } })

/-- An INIT, WRITE or READ command (R403). -/
def issueCommand (k : XferKind) (s : State) : State :=
  match issueError k s with
  | some code => cmdError code s
  | none => startTransfer k s

/-- FM_NOP (R405). -/
def nopCommand (s : State) : State := { s with arb := { s.arb with err := .ok } }

/-- `FmCommand(op)` (R403, R130). -/
def fmCommand (op : BitVec 4) (s : State) : State :=
  match op.toNat with
  | 0 => nopCommand s
  | 1 => issueCommand .init s
  | 2 => issueCommand .write s
  | 3 => issueCommand .read s
  | _ => cmdError .badcmd s

/-- INIT's completion (R402, R406): RSTIO_ANY and EQIO_S reach the device. -/
def completeInit (s : State) : State :=
  let t := devEnter .quad (devRstio s)
  { t with arb := { t.arb with mode := .quad, ready := true } }

/-- WRITE's completion (R407): QWRITE reaches the device. -/
def completeWrite (s : State) : State :=
  let t := devWrite s.sched.xferMode s.arb.fmAddr (bufBytes s.sched.xferDraw s) s
  { t with arb := { t.arb with bufPtr := 0 } }

/-- READ's completion (R408): the bytes QREAD returns go to `BUF[0..FM_LEN−1]`. -/
def completeRead (s : State) : State :=
  let t := devRead s.sched.xferMode .quad s.sched.xferDraw s.arb.fmAddr s.arb.fmLen.toNat s
  { t with arb := { t.arb with buf := memWriteBytes s.cfg.bufDepth t.arb.buf 0 t.dev.out, bufPtr := 0 } }

/-- The completion actions of XFER_KIND (R410). -/
def completeKind (s : State) : State :=
  match s.arb.kind with
  | .init => completeInit s
  | .write => completeWrite s
  | .read => completeRead s

/-- `EV_XFER_DONE` (R410). With no transaction in progress the event does not occur, and nothing completes. -/
def xferDoneEvent (s : State) : State :=
  if s.arb.xfer then
    let t := releaseWires (completeKind s)
    raiseInt .cmdDone { t with arb := { t.arb with xfer := false } }
  else s

/-- `EV_PIX_START` (R313). With no row on the wires the event does not occur. -/
def pixStartEvent (s : State) : State :=
  if s.loe.streaming then { s with ports := { s.ports with pixValid := true } } else s

/-- `EV_STREAM_END` (R313). With no row on the wires the event does not occur. -/
def streamEndEvent (s : State) : State :=
  if s.loe.streaming then stopStream (4 * s.loe.rw.toNat) s else s

/-! ### Reset (R700) -/

/-- Whether the QWRITE or QREAD of a transaction in progress was sent in a mode other than DEV_MODE at its start (R413). -/
def wrongModeXfer (s : State) : Bool :=
  s.arb.xfer && decide (s.arb.kind ≠ .init) && decide (s.sched.xferMode ≠ .quad)

/-- What a reset leaves of the device (R700): a WRITE in progress leaves the covered bytes draws, and DEV_MODE is a draw
after every reset without a power cycle, in the middle of a frame or not (spec/93_implementation_defined.md rules "any
value"; log entry 7). A WRITE or READ in progress that was sent in another mode leaves every byte a draw: R413 says so of any
such frame, one that a reset cuts among them. -/
def resetDevice (s : State) : Device :=
  { s.dev with
    mem := if wrongModeXfer s then []
           else if s.arb.xfer && decide (s.arb.kind = .write) then
             memForget s.dev.mem s.arb.fmAddr.toNat s.arb.fmLen.toNat else s.dev.mem,
    mode := Config.drawMode s.sched.draws }

/-- `EV_RESET` (R700): every state element takes its reset value, every scheduled event is cancelled, and the other
events of the cycle are discarded (R610). The parameters, the device, what the environment does later and what has been
observed stay. DESIGN CHOICE: a frame from outside the block in a reset cycle is discarded with the cycle's events and does
not reach the device (no rule says whether it does; log entry 10). -/
def resetEvent (s : State) : State :=
  { s with
    ctrl := Ctrl.atReset s.cfg, vstat := Vstat.atReset, cnt := Counters.atReset, det := Detector.atReset,
    gen := Generator.atReset, loe := LineOut.atReset, arb := Arbiter.atReset, irq := Interrupts.atReset,
    prof0 := Profile.atReset, prof1 := Profile.atReset, dev := resetDevice s, ports := Ports.atReset,
    sched := { clock := s.sched.clock, xferDue := 0, pixDue := 0, endDue := 0, xferDraw := 0,
               xferMode := .single, draws := s.sched.draws + 1 },
    trace := { rows := if s.loe.streaming then markStreamed (pixelsStreamed s) s.trace.rows else s.trace.rows,
               reads := s.trace.reads, pulses := cutPulses s.sched.clock s.trace.pulses, frames := [] },
    inputs := s.inputs.filter (fun q => decide (s.sched.clock < q.time)) }

end Sys2Proof.Machine
end

