-- ==== Sys2Proof/Machine/Registers.lean ====
section
/-! DEFINITION. The host register file (spec/44_register_file.md): what a read returns and does, what a write does. -/

namespace Sys2Proof.Machine

/-- A host read returns `v` from address `a`: `h_rdata` takes the value and the observation is recorded (R526, R10). -/
def returnWord (a : RegAddr) (v : Word) (s : State) : State :=
  { s with ports := { s.ports with hRdata := v },
           trace := { s.trace with reads := { addr := a, value := v } :: s.trace.reads } }

/-- `(BUFPTR + 1) mod P_BUF_DEPTH` (R513, R514). -/
def nextBufPtr (s : State) : BitVec 8 := BitVec.ofNat 8 ((s.arb.bufPtr.toNat + 1) % s.cfg.bufDepth)

/-- The word a read of FM_RDATA returns while XFER = 0: `BUF[BUFPTR]`, a draw if it was never written (R514). -/
def rdataWord (s : State) : Word :=
  ((memRead s.arb.buf s.arb.bufPtr.toNat).getD (Config.drawByte s.sched.draws 0)).setWidth 16

/-- A read of FM_RDATA (R514): it advances BUFPTR, but not while XFER = 1, when it returns 0. -/
def readRdata (s : State) : State :=
  if s.arb.xfer then returnWord (addrOf .fmRdata) 0 s
  else
    nextDraw (returnWord (addrOf .fmRdata) (rdataWord s) { s with arb := { s.arb with bufPtr := nextBufPtr s } })

/-- A read of a register. Only FM_RDATA's has a side effect (R89). -/
def readReg (r : Reg) (s : State) : State :=
  match r with
  | .fmRdata => readRdata s
  | _ => returnWord (addrOf r) (regWord s r) s

/-- CTRL's fields after a write of `v` (R500): SYNC_MODE is written only if P_HW_HAS_EXT_SYNC. -/
def ctrlAfter (v : Word) (s : State) : Ctrl :=
  { enable := v.getLsbD 0, outEn := v.getLsbD 1,
    syncMode := if s.cfg.hasExtSync then v.getLsbD 2 else s.ctrl.syncMode, profSel := v.getLsbD 3 }

/-- The effect of a change of EN, if it changed (R500, R218). -/
def enableChange (old : Ctrl) (s : State) : State :=
  if s.ctrl.enable = old.enable then s else if s.ctrl.enable then enableEffects s else disableEffects s

/-- A write of CTRL (R500). -/
def writeCtrl (v : Word) (s : State) : State :=
  let t := { s with ctrl := ctrlAfter v s }
  enableChange s.ctrl (if t.ctrl.syncMode = s.ctrl.syncMode then t else syncModeEffects t)

/-- The host fields of VSTAT from a word in R124's layout; SYNC_SRC and STD are not the host's. -/
def putVstat (w : Word) (s : State) : State :=
  { s with vstat := { s.vstat with actIn := w.getLsbD 2, vref0 := w.extractLsb' 4 4, vref1 := w.extractLsb' 8 4 } }

/-- A write of VSTAT: `(VSTAT AND NOT HMASK) OR (v AND HMASK)` (R501). -/
def writeVstat (v : Word) (s : State) : State := putVstat ((vstatWord s &&& ~~~hmask) ||| (v &&& hmask)) s

/-- A write of VSTAT_SET: `VSTAT OR (v AND HMASK)` (R502). -/
def writeVstatSet (v : Word) (s : State) : State := putVstat (vstatWord s ||| (v &&& hmask)) s

/-- A write of VSTAT_CLR: `VSTAT AND NOT (v AND HMASK)` (R503). -/
def writeVstatClr (v : Word) (s : State) : State := putVstat (vstatWord s &&& ~~~(v &&& hmask)) s

/-- A write of INT_EN (R509). -/
def writeIntEn (v : Word) (s : State) : State := { s with irq := { s.irq with en := v.extractLsb' 0 10 } }

/-- A write to a transaction parameter, ignored while XFER = 1 (R404). -/
def unlessXfer (a : Arbiter) (s : State) : State := if s.arb.xfer then s else { s with arb := a }

/-- A write of FM_ADDR_LO (R510). -/
def writeFmAddrLo (v : Word) (s : State) : State :=
  unlessXfer { s.arb with fmAddr := s.arb.fmAddr.extractLsb' 16 8 ++ v } s

/-- A write of FM_ADDR_HI (R510). -/
def writeFmAddrHi (v : Word) (s : State) : State :=
  unlessXfer { s.arb with fmAddr := v.extractLsb' 0 8 ++ s.arb.fmAddr.extractLsb' 0 16 } s

/-- A write of FM_LEN (R511). -/
def writeFmLen (v : Word) (s : State) : State := unlessXfer { s.arb with fmLen := v.extractLsb' 0 9 } s

/-- A write of FM_WDATA: `BUF[BUFPTR] <- v[7:0]`, and BUFPTR advances (R513). -/
def writeFmWdata (v : Word) (s : State) : State :=
  unlessXfer
    { s.arb with buf := memWrite s.arb.buf s.arb.bufPtr.toNat (v.extractLsb' 0 8), bufPtr := nextBufPtr s } s

/-- A write of FM_BUFPTR: `v[7:0] mod P_BUF_DEPTH` (R516). -/
def writeFmBufptr (v : Word) (s : State) : State :=
  unlessXfer { s.arb with bufPtr := BitVec.ofNat 8 ((v.extractLsb' 0 8).toNat % s.cfg.bufDepth) } s

/-- Replace profile `p` (R527: accepted at any time). -/
def putProfile (p : Bool) (f : Profile) (s : State) : State :=
  if p then { s with prof1 := f } else { s with prof0 := f }

/-- A write of P[p].HSIZE (R521). -/
def writeHsize (p : Bool) (v : Word) (s : State) : State :=
  putProfile p { profile p s with hsizeSel := v.extractLsb' 0 3 } s

/-- A write of P[p].TOP (R522). -/
def writeTop (p : Bool) (v : Word) (s : State) : State :=
  putProfile p { profile p s with top := v.extractLsb' 0 10 } s

/-- A write of P[p].BOT (R523). -/
def writeBot (p : Bool) (v : Word) (s : State) : State :=
  putProfile p { profile p s with bot := v.extractLsb' 0 10 } s

/-- A write of P[p].HOFF (R524). -/
def writeHoff (p : Bool) (v : Word) (s : State) : State := putProfile p { profile p s with hoff := v } s

/-- A write of P[p].SCAN (R525). -/
def writeScan (p : Bool) (v : Word) (s : State) : State :=
  putProfile p { profile p s with scan := v.getLsbD 0 } s

/-- A write of a register. A write to a read-only register is ignored (R135). -/
def writeReg (r : Reg) (v : Word) (s : State) : State :=
  match r with
  | .ctrl => writeCtrl v s
  | .vstat => writeVstat v s
  | .vstatSet => writeVstatSet v s
  | .vstatClr => writeVstatClr v s
  | .line => s
  | .lastCount => s
  | .field => s
  | .elapsed => s
  | .intPend => ackInt (v.extractLsb' 0 10) s
  | .intEn => writeIntEn v s
  | .fmAddrLo => writeFmAddrLo v s
  | .fmAddrHi => writeFmAddrHi v s
  | .fmLen => writeFmLen v s
  | .fmCmd => fmCommand (v.extractLsb' 0 4) s
  | .fmStat => s
  | .fmWdata => writeFmWdata v s
  | .fmBufptr => writeFmBufptr v s
  | .fmRdata => s
  | .outResW => s
  | .outResH => s
  | .dbgSr => s
  | .dbgSrcnt => s
  | .dbgLastline => s
  | .dbgAddrLo => s
  | .dbgAddrHi => s
  | .p0Hsize => writeHsize false v s
  | .p0Top => writeTop false v s
  | .p0Bot => writeBot false v s
  | .p0Hoff => writeHoff false v s
  | .p0Scan => writeScan false v s
  | .p1Hsize => writeHsize true v s
  | .p1Top => writeTop true v s
  | .p1Bot => writeBot true v s
  | .p1Hoff => writeHoff true v s
  | .p1Scan => writeScan true v s

/-- A read at a word address; a reserved address returns 0x0000 (R520). -/
def hostRead (a : RegAddr) (s : State) : State :=
  match regOf a with
  | some r => readReg r s
  | none => returnWord a 0 s

/-- A write at a word address; a write to a reserved address is ignored (R520). -/
def hostWrite (a : RegAddr) (v : Word) (s : State) : State :=
  match regOf a with
  | some r => writeReg r v s
  | none => s

/-- An access to a reserved address (R520). -/
def reservedAccess (write : Bool) (a : RegAddr) (s : State) : State := if write then s else returnWord a 0 s

end Sys2Proof.Machine
end

