-- ==== Sys2Proof/Machine/Events.lean ====
section
/-! DEFINITION. The events, one meaning per row (spec/41_sync_detector.md, spec/42_line_output.md, spec/43_frame_memory.md,
spec/44_register_file.md, spec/70_reset_and_hazards.md). -/

namespace Sys2Proof.Machine

/-- EV_CSYNC (R202). -/
def execEvCsync (s : State) : Host.Outcome State Fault Refusal :=
  .next (csyncEvent s)

/-- EV_VSYNC (R203). -/
def execEvVsync (s : State) : Host.Outcome State Fault Refusal :=
  .next (vsyncEvent s)

/-- EV_CMP (R205). -/
def execEvCmp (s : State) : Host.Outcome State Fault Refusal :=
  .next (cmpEvent s)

/-- EV_REF_TICK (R210). -/
def execEvRefTick (s : State) : Host.Outcome State Fault Refusal :=
  .next (refTickEvent s)

/-- EV_GEN_LINE (R212). -/
def execEvGenLine (s : State) : Host.Outcome State Fault Refusal :=
  .next (genLineEvent s)

/-- EV_RESET (R700). -/
def execEvReset (s : State) : Host.Outcome State Fault Refusal :=
  .next (resetEvent s)

/-- EV_HOST_WR: the host write at an address (R526). -/
def execEvHostWr (addr : RegAddr) (data : Word) (s : State) : Host.Outcome State Fault Refusal :=
  .next (hostWrite addr data s)

/-- EV_HOST_RD: the host read at an address (R526). -/
def execEvHostRd (addr : RegAddr) (s : State) : Host.Outcome State Fault Refusal :=
  .next (hostRead addr s)

/-- EV_XFER_DONE (R410). -/
def execEvXferDone (s : State) : Host.Outcome State Fault Refusal :=
  .next (xferDoneEvent s)

/-- EV_PIX_START (R313). -/
def execEvPixStart (s : State) : Host.Outcome State Fault Refusal :=
  .next (pixStartEvent s)

/-- EV_STREAM_END (R313). -/
def execEvStreamEnd (s : State) : Host.Outcome State Fault Refusal :=
  .next (streamEndEvent s)

/-- LINE_EVENT: one counted scan line (R204). -/
def execLineEvent (s : State) : Host.Outcome State Fault Refusal :=
  .next (lineEvent s)

/-- VSYNC_EVENT: the start of a field (R214). -/
def execVsyncEvent (kind : SyncKind) (value : Bool) (s : State) : Host.Outcome State Fault Refusal :=
  .next (verticalSync kind value s)

/-- TIMEOUT_SWITCH: the switch to internal sync (R211). -/
def execTimeoutSwitch (s : State) : Host.Outcome State Fault Refusal :=
  .next (timeoutSwitch s)

end Sys2Proof.Machine
end

