-- ==== Sys2Proof/Machine/FrameCommands.lean ====
section
/-! DEFINITION. The frame-memory commands of FM_CMD, one meaning per opcode row (spec/43_frame_memory.md). -/

namespace Sys2Proof.Machine

/-- FM_NOP: ERR <- OK (R405). -/
def execFmNop (s : State) : Host.Outcome State Fault Refusal :=
  .next (fmCommand 0x0 s)

/-- FM_INIT: the issue of an INIT, or its refusal (R403, R406). -/
def execFmInit (s : State) : Host.Outcome State Fault Refusal :=
  .next (fmCommand 0x1 s)

/-- FM_WRITE: the issue of a quad write, or its refusal (R403, R407). -/
def execFmWrite (s : State) : Host.Outcome State Fault Refusal :=
  .next (fmCommand 0x2 s)

/-- FM_READ: the issue of a quad read, or its refusal (R403, R408). -/
def execFmRead (s : State) : Host.Outcome State Fault Refusal :=
  .next (fmCommand 0x3 s)

/-- FM_RESERVED_0x4-0x7: refused with BADCMD (R409). -/
def execFmReserved4 (low : BitVec 2) (s : State) : Host.Outcome State Fault Refusal :=
  .next (fmCommand (1#2 ++ low) s)

/-- FM_RESERVED_0x8-0xF: refused with BADCMD (R409). -/
def execFmReserved8 (low : BitVec 3) (s : State) : Host.Outcome State Fault Refusal :=
  .next (fmCommand (1#1 ++ low) s)

end Sys2Proof.Machine
end

