-- ==== Sys2Proof/Machine/HostReads.lean ====
section
/-! DEFINITION. The host read of every register, one meaning per row of the table (spec/44_register_file.md). -/

namespace Sys2Proof.Machine

/-- RD_CTRL: a read of CTRL (R500). -/
def execRdCtrl (s : State) : Host.Outcome State Fault Refusal :=
  .next (readReg .ctrl s)

/-- RD_VSTAT: a read of VSTAT (R501). -/
def execRdVstat (s : State) : Host.Outcome State Fault Refusal :=
  .next (readReg .vstat s)

/-- RD_VSTAT_SET: a write-only register reads 0 (R135, R502). -/
def execRdVstatSet (s : State) : Host.Outcome State Fault Refusal :=
  .next (readReg .vstatSet s)

/-- RD_VSTAT_CLR: a write-only register reads 0 (R135, R503). -/
def execRdVstatClr (s : State) : Host.Outcome State Fault Refusal :=
  .next (readReg .vstatClr s)

/-- RD_LINE: a read of LINE (R504). -/
def execRdLine (s : State) : Host.Outcome State Fault Refusal :=
  .next (readReg .line s)

/-- RD_LAST_COUNT: a read of LAST_COUNT (R505). -/
def execRdLastCount (s : State) : Host.Outcome State Fault Refusal :=
  .next (readReg .lastCount s)

/-- RD_FIELD: a read of FIELD (R506). -/
def execRdField (s : State) : Host.Outcome State Fault Refusal :=
  .next (readReg .field s)

/-- RD_ELAPSED: a read of ELAPSED (R507). -/
def execRdElapsed (s : State) : Host.Outcome State Fault Refusal :=
  .next (readReg .elapsed s)

/-- RD_INT_PEND: a read of INT_PEND (R508). -/
def execRdIntPend (s : State) : Host.Outcome State Fault Refusal :=
  .next (readReg .intPend s)

/-- RD_INT_EN: a read of INT_EN (R509). -/
def execRdIntEn (s : State) : Host.Outcome State Fault Refusal :=
  .next (readReg .intEn s)

/-- RD_FM_ADDR_LO: a read of FM_ADDR_LO (R510). -/
def execRdFmAddrLo (s : State) : Host.Outcome State Fault Refusal :=
  .next (readReg .fmAddrLo s)

/-- RD_FM_ADDR_HI: a read of FM_ADDR_HI (R510). -/
def execRdFmAddrHi (s : State) : Host.Outcome State Fault Refusal :=
  .next (readReg .fmAddrHi s)

/-- RD_FM_LEN: a read of FM_LEN (R511). -/
def execRdFmLen (s : State) : Host.Outcome State Fault Refusal :=
  .next (readReg .fmLen s)

/-- RD_FM_CMD: a write-only register reads 0 (R135, R512). -/
def execRdFmCmd (s : State) : Host.Outcome State Fault Refusal :=
  .next (readReg .fmCmd s)

/-- RD_FM_STAT: a read of FM_STAT (R515). -/
def execRdFmStat (s : State) : Host.Outcome State Fault Refusal :=
  .next (readReg .fmStat s)

/-- RD_FM_WDATA: a write-only register reads 0 (R135, R513). -/
def execRdFmWdata (s : State) : Host.Outcome State Fault Refusal :=
  .next (readReg .fmWdata s)

/-- RD_FM_BUFPTR: a read of FM_BUFPTR (R516). -/
def execRdFmBufptr (s : State) : Host.Outcome State Fault Refusal :=
  .next (readReg .fmBufptr s)

/-- RD_FM_RDATA: a read of the buffer port, which advances BUFPTR (R514). -/
def execRdFmRdata (s : State) : Host.Outcome State Fault Refusal :=
  .next (readReg .fmRdata s)

/-- RD_OUT_RES_W: a read of OUT_RES_W (R519). -/
def execRdOutResW (s : State) : Host.Outcome State Fault Refusal :=
  .next (readReg .outResW s)

/-- RD_OUT_RES_H: a read of OUT_RES_H (R519). -/
def execRdOutResH (s : State) : Host.Outcome State Fault Refusal :=
  .next (readReg .outResH s)

/-- RD_DBG_SR: a read of DBG_SR (R517). -/
def execRdDbgSr (s : State) : Host.Outcome State Fault Refusal :=
  .next (readReg .dbgSr s)

/-- RD_DBG_SRCNT: a read of DBG_SRCNT (R517). -/
def execRdDbgSrcnt (s : State) : Host.Outcome State Fault Refusal :=
  .next (readReg .dbgSrcnt s)

/-- RD_DBG_LASTLINE: a read of DBG_LASTLINE (R518). -/
def execRdDbgLastline (s : State) : Host.Outcome State Fault Refusal :=
  .next (readReg .dbgLastline s)

/-- RD_DBG_ADDR_LO: a read of DBG_ADDR_LO (R518). -/
def execRdDbgAddrLo (s : State) : Host.Outcome State Fault Refusal :=
  .next (readReg .dbgAddrLo s)

/-- RD_DBG_ADDR_HI: a read of DBG_ADDR_HI (R518). -/
def execRdDbgAddrHi (s : State) : Host.Outcome State Fault Refusal :=
  .next (readReg .dbgAddrHi s)

/-- RD_P0.HSIZE: a read of P0.HSIZE (R521). -/
def execRdP0Hsize (s : State) : Host.Outcome State Fault Refusal :=
  .next (readReg .p0Hsize s)

/-- RD_P0.TOP: a read of P0.TOP (R522). -/
def execRdP0Top (s : State) : Host.Outcome State Fault Refusal :=
  .next (readReg .p0Top s)

/-- RD_P0.BOT: a read of P0.BOT (R523). -/
def execRdP0Bot (s : State) : Host.Outcome State Fault Refusal :=
  .next (readReg .p0Bot s)

/-- RD_P0.HOFF: a read of P0.HOFF (R524). -/
def execRdP0Hoff (s : State) : Host.Outcome State Fault Refusal :=
  .next (readReg .p0Hoff s)

/-- RD_P0.SCAN: a read of P0.SCAN (R525). -/
def execRdP0Scan (s : State) : Host.Outcome State Fault Refusal :=
  .next (readReg .p0Scan s)

/-- RD_P1.HSIZE: a read of P1.HSIZE (R521). -/
def execRdP1Hsize (s : State) : Host.Outcome State Fault Refusal :=
  .next (readReg .p1Hsize s)

/-- RD_P1.TOP: a read of P1.TOP (R522). -/
def execRdP1Top (s : State) : Host.Outcome State Fault Refusal :=
  .next (readReg .p1Top s)

/-- RD_P1.BOT: a read of P1.BOT (R523). -/
def execRdP1Bot (s : State) : Host.Outcome State Fault Refusal :=
  .next (readReg .p1Bot s)

/-- RD_P1.HOFF: a read of P1.HOFF (R524). -/
def execRdP1Hoff (s : State) : Host.Outcome State Fault Refusal :=
  .next (readReg .p1Hoff s)

/-- RD_P1.SCAN: a read of P1.SCAN (R525). -/
def execRdP1Scan (s : State) : Host.Outcome State Fault Refusal :=
  .next (readReg .p1Scan s)

end Sys2Proof.Machine
end

