-- ==== Sys2Proof/Machine/HostReserved.lean ====
section
/-! DEFINITION. Accesses to the reserved host addresses (spec/44_register_file.md R520). -/

namespace Sys2Proof.Machine

/-- RESERVED_0x19: a read returns 0 and a write is ignored, whatever the data (R135, R520). -/
def execReserved19 (write : Bool) (_data : Word) (s : State) : Host.Outcome State Fault Refusal :=
  .next (reservedAccess write 0x19 s)

/-- RESERVED_0x1A-0x1B: a read returns 0 and a write is ignored, whatever the data (R135, R520). -/
def execReserved1A (write : Bool) (low : BitVec 1) (_data : Word) (s : State) : Host.Outcome State Fault Refusal :=
  .next (reservedAccess write (0xD#7 ++ low) s)

/-- RESERVED_0x1C-0x1F: a read returns 0 and a write is ignored, whatever the data (R135, R520). -/
def execReserved1C (write : Bool) (low : BitVec 2) (_data : Word) (s : State) : Host.Outcome State Fault Refusal :=
  .next (reservedAccess write (0x7#6 ++ low) s)

/-- RESERVED_0x25: a read returns 0 and a write is ignored, whatever the data (R135, R520). -/
def execReserved25 (write : Bool) (_data : Word) (s : State) : Host.Outcome State Fault Refusal :=
  .next (reservedAccess write 0x25 s)

/-- RESERVED_0x26-0x27: a read returns 0 and a write is ignored, whatever the data (R135, R520). -/
def execReserved26 (write : Bool) (low : BitVec 1) (_data : Word) (s : State) : Host.Outcome State Fault Refusal :=
  .next (reservedAccess write (0x13#7 ++ low) s)

/-- RESERVED_0x2D: a read returns 0 and a write is ignored, whatever the data (R135, R520). -/
def execReserved2D (write : Bool) (_data : Word) (s : State) : Host.Outcome State Fault Refusal :=
  .next (reservedAccess write 0x2D s)

/-- RESERVED_0x2E-0x2F: a read returns 0 and a write is ignored, whatever the data (R135, R520). -/
def execReserved2E (write : Bool) (low : BitVec 1) (_data : Word) (s : State) : Host.Outcome State Fault Refusal :=
  .next (reservedAccess write (0x17#7 ++ low) s)

/-- RESERVED_0x30-0x3F: a read returns 0 and a write is ignored, whatever the data (R135, R520). -/
def execReserved30 (write : Bool) (low : BitVec 4) (_data : Word) (s : State) : Host.Outcome State Fault Refusal :=
  .next (reservedAccess write (0x3#4 ++ low) s)

/-- RESERVED_0x40-0x7F: a read returns 0 and a write is ignored, whatever the data (R135, R520). -/
def execReserved40 (write : Bool) (low : BitVec 6) (_data : Word) (s : State) : Host.Outcome State Fault Refusal :=
  .next (reservedAccess write (0x1#2 ++ low) s)

/-- RESERVED_0x80-0xFF: a read returns 0 and a write is ignored, whatever the data (R135, R520). -/
def execReserved80 (write : Bool) (low : BitVec 7) (_data : Word) (s : State) : Host.Outcome State Fault Refusal :=
  .next (reservedAccess write (0x1#1 ++ low) s)

end Sys2Proof.Machine
end

