-- ==== Sys2Proof/Machine/HostWrites.lean ====
section
/-! DEFINITION. The host write of every register, one meaning per row of the table (spec/44_register_file.md). -/

namespace Sys2Proof.Machine

/-- WR_CTRL: a write of CTRL (R500). -/
def execWrCtrl (data : Word) (s : State) : Host.Outcome State Fault Refusal :=
  .next (writeReg .ctrl data s)

/-- WR_VSTAT: a write of VSTAT (R501). -/
def execWrVstat (data : Word) (s : State) : Host.Outcome State Fault Refusal :=
  .next (writeReg .vstat data s)

/-- WR_VSTAT_SET: a write of VSTAT_SET (R502). -/
def execWrVstatSet (data : Word) (s : State) : Host.Outcome State Fault Refusal :=
  .next (writeReg .vstatSet data s)

/-- WR_VSTAT_CLR: a write of VSTAT_CLR (R503). -/
def execWrVstatClr (data : Word) (s : State) : Host.Outcome State Fault Refusal :=
  .next (writeReg .vstatClr data s)

/-- WR_LINE: a write to a read-only register is ignored (R135, R504). -/
def execWrLine (data : Word) (s : State) : Host.Outcome State Fault Refusal :=
  .next (writeReg .line data s)

/-- WR_LAST_COUNT: a write to a read-only register is ignored (R135, R505). -/
def execWrLastCount (data : Word) (s : State) : Host.Outcome State Fault Refusal :=
  .next (writeReg .lastCount data s)

/-- WR_FIELD: a write to a read-only register is ignored (R135, R506). -/
def execWrField (data : Word) (s : State) : Host.Outcome State Fault Refusal :=
  .next (writeReg .field data s)

/-- WR_ELAPSED: a write to a read-only register is ignored (R135, R507). -/
def execWrElapsed (data : Word) (s : State) : Host.Outcome State Fault Refusal :=
  .next (writeReg .elapsed data s)

/-- WR_INT_PEND: the acknowledge, write-one-to-clear (R508). -/
def execWrIntPend (data : Word) (s : State) : Host.Outcome State Fault Refusal :=
  .next (writeReg .intPend data s)

/-- WR_INT_EN: a write of INT_EN (R509). -/
def execWrIntEn (data : Word) (s : State) : Host.Outcome State Fault Refusal :=
  .next (writeReg .intEn data s)

/-- WR_FM_ADDR_LO: a write of FM_ADDR_LO (R510). -/
def execWrFmAddrLo (data : Word) (s : State) : Host.Outcome State Fault Refusal :=
  .next (writeReg .fmAddrLo data s)

/-- WR_FM_ADDR_HI: a write of FM_ADDR_HI (R510). -/
def execWrFmAddrHi (data : Word) (s : State) : Host.Outcome State Fault Refusal :=
  .next (writeReg .fmAddrHi data s)

/-- WR_FM_LEN: a write of FM_LEN (R511). -/
def execWrFmLen (data : Word) (s : State) : Host.Outcome State Fault Refusal :=
  .next (writeReg .fmLen data s)

/-- WR_FM_CMD: a write of FM_CMD (R512). -/
def execWrFmCmd (data : Word) (s : State) : Host.Outcome State Fault Refusal :=
  .next (writeReg .fmCmd data s)

/-- WR_FM_STAT: a write to a read-only register is ignored (R135, R515). -/
def execWrFmStat (data : Word) (s : State) : Host.Outcome State Fault Refusal :=
  .next (writeReg .fmStat data s)

/-- WR_FM_WDATA: a write of FM_WDATA (R513). -/
def execWrFmWdata (data : Word) (s : State) : Host.Outcome State Fault Refusal :=
  .next (writeReg .fmWdata data s)

/-- WR_FM_BUFPTR: a write of FM_BUFPTR (R516). -/
def execWrFmBufptr (data : Word) (s : State) : Host.Outcome State Fault Refusal :=
  .next (writeReg .fmBufptr data s)

/-- WR_FM_RDATA: a write to a read-only register is ignored (R135, R514). -/
def execWrFmRdata (data : Word) (s : State) : Host.Outcome State Fault Refusal :=
  .next (writeReg .fmRdata data s)

/-- WR_OUT_RES_W: a write to a read-only register is ignored (R135, R519). -/
def execWrOutResW (data : Word) (s : State) : Host.Outcome State Fault Refusal :=
  .next (writeReg .outResW data s)

/-- WR_OUT_RES_H: a write to a read-only register is ignored (R135, R519). -/
def execWrOutResH (data : Word) (s : State) : Host.Outcome State Fault Refusal :=
  .next (writeReg .outResH data s)

/-- WR_DBG_SR: a write to a read-only register is ignored (R135, R517). -/
def execWrDbgSr (data : Word) (s : State) : Host.Outcome State Fault Refusal :=
  .next (writeReg .dbgSr data s)

/-- WR_DBG_SRCNT: a write to a read-only register is ignored (R135, R517). -/
def execWrDbgSrcnt (data : Word) (s : State) : Host.Outcome State Fault Refusal :=
  .next (writeReg .dbgSrcnt data s)

/-- WR_DBG_LASTLINE: a write to a read-only register is ignored (R135, R518). -/
def execWrDbgLastline (data : Word) (s : State) : Host.Outcome State Fault Refusal :=
  .next (writeReg .dbgLastline data s)

/-- WR_DBG_ADDR_LO: a write to a read-only register is ignored (R135, R518). -/
def execWrDbgAddrLo (data : Word) (s : State) : Host.Outcome State Fault Refusal :=
  .next (writeReg .dbgAddrLo data s)

/-- WR_DBG_ADDR_HI: a write to a read-only register is ignored (R135, R518). -/
def execWrDbgAddrHi (data : Word) (s : State) : Host.Outcome State Fault Refusal :=
  .next (writeReg .dbgAddrHi data s)

/-- WR_P0.HSIZE: a write of P0.HSIZE (R521). -/
def execWrP0Hsize (data : Word) (s : State) : Host.Outcome State Fault Refusal :=
  .next (writeReg .p0Hsize data s)

/-- WR_P0.TOP: a write of P0.TOP (R522). -/
def execWrP0Top (data : Word) (s : State) : Host.Outcome State Fault Refusal :=
  .next (writeReg .p0Top data s)

/-- WR_P0.BOT: a write of P0.BOT (R523). -/
def execWrP0Bot (data : Word) (s : State) : Host.Outcome State Fault Refusal :=
  .next (writeReg .p0Bot data s)

/-- WR_P0.HOFF: a write of P0.HOFF (R524). -/
def execWrP0Hoff (data : Word) (s : State) : Host.Outcome State Fault Refusal :=
  .next (writeReg .p0Hoff data s)

/-- WR_P0.SCAN: a write of P0.SCAN (R525). -/
def execWrP0Scan (data : Word) (s : State) : Host.Outcome State Fault Refusal :=
  .next (writeReg .p0Scan data s)

/-- WR_P1.HSIZE: a write of P1.HSIZE (R521). -/
def execWrP1Hsize (data : Word) (s : State) : Host.Outcome State Fault Refusal :=
  .next (writeReg .p1Hsize data s)

/-- WR_P1.TOP: a write of P1.TOP (R522). -/
def execWrP1Top (data : Word) (s : State) : Host.Outcome State Fault Refusal :=
  .next (writeReg .p1Top data s)

/-- WR_P1.BOT: a write of P1.BOT (R523). -/
def execWrP1Bot (data : Word) (s : State) : Host.Outcome State Fault Refusal :=
  .next (writeReg .p1Bot data s)

/-- WR_P1.HOFF: a write of P1.HOFF (R524). -/
def execWrP1Hoff (data : Word) (s : State) : Host.Outcome State Fault Refusal :=
  .next (writeReg .p1Hoff data s)

/-- WR_P1.SCAN: a write of P1.SCAN (R525). -/
def execWrP1Scan (data : Word) (s : State) : Host.Outcome State Fault Refusal :=
  .next (writeReg .p1Scan data s)

end Sys2Proof.Machine
end

