-- ==== Sys2Proof/Machine/Pins.lean ====
section
/-! DEFINITION. The output ports of spec/10_state.md rule R42 that are functions of the state: `irq`, `vin_sel`,
`vref0_out`, `vref1_out`, `sync_out`, `pix_out` and the frame-memory pins, the input `fm_sio_i` among them. (`h_rdata`,
`sync_oe` and `pix_valid` are the fields of `Ports`.) -/

namespace Sys2Proof.Machine

/-- `irq` (R604). -/
def pinIrq (s : State) : Bool := irqLevel s

/-- `vin_sel` equals VSTAT.ACT_IN (R501). -/
def pinVinSel (s : State) : Bool := s.vstat.actIn

/-- `vref0_out` (R501). -/
def pinVref0 (s : State) : BitVec 4 := s.vstat.vref0

/-- `vref1_out` (R501). -/
def pinVref1 (s : State) : BitVec 4 := s.vstat.vref1

/-- `sync_out`: 0 during a pulse, 1 otherwise (R213, R145). -/
def pinSyncOut (s : State) : Bool :=
  !(s.trace.pulses.any (fun p => decide (p.start ≤ s.sched.clock) && decide (s.sched.clock < p.stop)))

/-- Whether a frame is a row read. -/
def isRowRead : Frame → Bool
  | .dread _ _ => true
  | _ => false

/-- The pixel of the newest row that is on the lines at this cycle: one per PIX_DIV cycles from t_pix (R313). -/
def currentPixel (s : State) : Pixel :=
  match s.trace.rows with
  | [] => 0
  | r :: _ => r.pixels.getD ((s.sched.clock - s.sched.pixDue) / s.loe.pixDiv) 0

/-- `pix_out`: the pixel being streamed while `pix_valid` (R42, R313); 0 until a row has been streamed after a reset
(R42), and unstated between rows. -/
def pinPixOut (s : State) : Pixel :=
  if s.ports.pixValid then currentPixel s
  else if s.trace.frames.any (fun r => isRowRead r.frame) then Config.pixIdle s.sched.clock
  else 0

/-- The bits of a byte on the lines of a wire mode, from the most significant bit (R137). The lines that the mode does not
use stand as 0 here; `pinFmSioO` gives them a free value. -/
def byteLines (mode : DevMode) (b : Byte) : List (BitVec 4) :=
  match mode with
  | .quad => [b.extractLsb' 4 4, b.extractLsb' 0 4]
  | .dual => [(b.extractLsb' 6 2).setWidth 4, (b.extractLsb' 4 2).setWidth 4, (b.extractLsb' 2 2).setWidth 4,
              (b.extractLsb' 0 2).setWidth 4]
  | .single => [(b.extractLsb' 7 1).setWidth 4, (b.extractLsb' 6 1).setWidth 4, (b.extractLsb' 5 1).setWidth 4,
                (b.extractLsb' 4 1).setWidth 4, (b.extractLsb' 3 1).setWidth 4, (b.extractLsb' 2 1).setWidth 4,
                (b.extractLsb' 1 1).setWidth 4, (b.extractLsb' 0 1).setWidth 4]

/-- The command byte and the address, most significant byte first (R85, R137). -/
def headerBytes (cmd : Byte) (a : FmAddr) : List Byte :=
  [cmd, a.extractLsb' 16 8, a.extractLsb' 8 8, a.extractLsb' 0 8]

/-- The bytes the arbiter drives in a frame (R137). It drives no byte in the toggles of a mode switch. -/
def frameBytes (c : CmdBytes) : Frame → List Byte
  | .qwrite a data => headerBytes c.write a ++ data
  | .qread a _ => headerBytes c.read a
  | .dread a _ => headerBytes c.read a
  | .rstioQ => [c.rstio]
  | .rstioD => [c.rstio]
  | .rstioAny => [0xFF, 0xFF, 0xFF, 0xFF]
  | .edioS => [c.edio]
  | .eqioS => [c.eqio]
  | .toggles _ => []

/-- The mode whose lines a frame drives (R137; RSTIO_ANY drives all four, and its 8 clocks are four quad bytes). -/
def frameMode : Frame → DevMode
  | .qwrite _ _ => .quad
  | .qread _ _ => .quad
  | .dread _ _ => .dual
  | .rstioQ => .quad
  | .rstioD => .dual
  | .rstioAny => .quad
  | .edioS => .single
  | .eqioS => .single
  | .toggles _ => .single

/-- What the arbiter drives in each clock of a frame; the clocks after the list are released (R137). -/
def frameNibbles (c : CmdBytes) (f : Frame) : List (BitVec 4) := (frameBytes c f).flatMap (byteLines (frameMode f))

/-- The lines a mode drives: `fm_sio_oe` = 0xF quad, 0x3 dual, 0x1 single (R137). -/
def modeEnable : DevMode → BitVec 4
  | .quad => 0xF
  | .dual => 0x3
  | .single => 0x1

/-- Whether a record of the wires is a frame (a chip-select-low period) and not the toggles of a mode switch. -/
def isFrame : Frame → Bool
  | .toggles _ => false
  | _ => true

/-- The frame that is on the wires at this cycle: the newest that has started, unless it has ended. DESIGN CHOICE: a newer
frame cuts an older one for good. That happens only when a host command, a forced teardown or a row read begins while the
frames of a mode switch still run: R400 says that owners never overlap, yet R305 has cleared BUSY by then and R403 and R306
let the new frame begin (log entry 28). -/
def currentWire (s : State) : Option WireRec :=
  match s.trace.frames.find? (fun r => decide (r.start ≤ s.sched.clock)) with
  | some r => if s.sched.clock < r.stop then some r else none
  | none => none

/-- The record that was on the wires before `r`, the one of `currentWire`: the newest older one that started earlier. -/
def wireBefore (s : State) (r : WireRec) : Option WireRec :=
  (s.trace.frames.dropWhile (fun q => decide (s.sched.clock < q.start))).tail.find? (fun q => decide (q.start < r.start))

/-- Whether `r` starts in the very cycle in which the frame before it ends or is cut. DESIGN CHOICE: a frame of a new
operation that starts later than that, if only by a cycle, is low from its own start, so `fm_cs_n = 1` before it can be
shorter than the one `fm_sck` period of R414, which no rule makes a new operation wait for (log entry 18). -/
def followsAtOnce (s : State) (r : WireRec) : Bool :=
  match wireBefore s r with
  | some q => isFrame q.frame && decide (r.start ≤ q.stop)
  | none => false

/-- The first cycle of a frame's `fm_cs_n` low period (R137): its start. DESIGN CHOICE: where the frame starts in the very
cycle in which another ended or was cut, R414 puts one `fm_sck` period with `fm_cs_n = 1` between the two, and R313, R401 and
R730 leave no time for it (EQIO_S right after RSTIO_ANY; the second frame of a mode switch without extra toggles; a command
accepted in the completion's cycle; a frame that begins where a row read ends or is cut). Then `fm_cs_n` is 1 in the frame's first cycle, so that the two are two low periods, and falls
within the frame's first `fm_sck` period, at a free value; nothing else moves (log entry 18). -/
def selectedAt (s : State) (r : WireRec) : Nat :=
  if followsAtOnce s r then r.start + 1 + Config.selectHigh r.start % r.div else r.start

/-- `fm_cs_n`: low during a frame, 1 between two frames (R137, R400, R414). -/
def pinFmCsN (s : State) : Bool :=
  match currentWire s with
  | some r => !(isFrame r.frame && decide (selectedAt s r ≤ s.sched.clock))
  | none => true

/-- The clocks of a row read before its data (R313); every other frame runs without a pause. -/
def headerClocks (c : Cfg) (f : Frame) : Nat :=
  match f with
  | .dread _ _ => 16 + c.dummyDual
  | _ => 0

/-- The number of the `fm_sck` clock that runs at this cycle, or none while `fm_sck` is stopped (R313, R414). -/
def wireClock (s : State) (r : WireRec) : Option Nat :=
  if r.div = 0 then none
  else if r.resume ≤ s.sched.clock then some (headerClocks s.cfg r.frame + (s.sched.clock - r.resume) / r.div)
  else if (s.sched.clock - r.start) / r.div < headerClocks s.cfg r.frame then some ((s.sched.clock - r.start) / r.div)
  else none

/-- `fm_sck`: 0 when idle or stopped (R42, R313); its level within a clock period is not stated. DESIGN CHOICE: while
`fm_cs_n` is still 1 in the first clock of a frame that follows another at once (R414, `selectedAt`) it has that clock's
level, a free value, for no rule gives it (log entry 18). -/
def pinFmSck (s : State) : Bool :=
  match currentWire s with
  | some r =>
    match wireClock s r with
    | some _ =>
      Config.sckLevel r.div ((if r.resume ≤ s.sched.clock then s.sched.clock - r.resume else s.sched.clock - r.start) % r.div)
    | none => false
  | none => false

/-- What the arbiter drives at this cycle, with the lines it enables; none where it drives nothing. -/
def drivenLines (s : State) : Option (BitVec 4 × BitVec 4) :=
  match currentWire s with
  | some r =>
    match wireClock s r with
    | some k =>
      match (frameNibbles s.cfg.cmds r.frame)[k]? with
      | some v => some (v, modeEnable (frameMode r.frame))
      | none => none
    | none => none
  | none => none

/-- Whether the extra toggles of a mode switch run at this cycle (R411, R412). -/
def inToggles (s : State) : Bool :=
  match currentWire s with
  | some r => !isFrame r.frame
  | none => false

/-- `fm_sio_oe` (R137, R400). DESIGN CHOICE: a free value during the extra toggles of a mode switch, where R411 and R412 have
not yet set it to 0x1 and no rule gives it (log entry 18). -/
def pinFmSioOe (s : State) : BitVec 4 :=
  match drivenLines s with
  | some d => d.2
  | none => if inToggles s then Config.togglesEnable s.sched.clock else 0x0

/-- `fm_sio_o`: the driven value on the enabled lines; 0xF until a frame has been sent after a reset (R42); a line that is
not enabled has a free value (DESIGN CHOICE, no rule gives it; log entry 18). -/
def pinFmSioO (s : State) : BitVec 4 :=
  match drivenLines s with
  | some d => (d.1 &&& d.2) ||| (Config.sioReleased s.sched.clock &&& ~~~d.2)
  | none => if s.trace.frames.isEmpty then 0xF else Config.sioReleased s.sched.clock

/-- The levels of `fm_sio_i` in the data clocks of the frame on the wires, from its first data clock on (R137): the bytes a
QREAD is reading, or the pixels of the row a DREAD is reading, which use SIO1 and SIO0. -/
def dataLines (s : State) (f : Frame) : List (BitVec 4) :=
  match f with
  | .qread a n => (devReadBytes s.sched.xferMode .quad s.sched.xferDraw a n s).flatMap (byteLines .quad)
  | .dread _ _ =>
    match s.trace.rows with
    | [] => []
    | r :: _ => r.pixels.map (fun p => (Config.sioIdle s.sched.clock &&& 0xC) ||| p.setWidth 4)
  | _ => []

/-- The clocks of a read frame before its data (R137). -/
def dataStart (c : Cfg) : Frame → Nat
  | .qread _ _ => 8 + c.dummyQuad
  | .dread _ _ => 16 + c.dummyDual
  | _ => 0

/-- The input `fm_sio_i` (R42): the data of a read frame, clock by clock; at other times a free value. -/
def pinFmSioI (s : State) : BitVec 4 :=
  match currentWire s with
  | some r =>
    match wireClock s r with
    | some k =>
      if k < dataStart s.cfg r.frame then Config.sioIdle s.sched.clock
      else (dataLines s r.frame).getD (k - dataStart s.cfg r.frame) (Config.sioIdle s.sched.clock)
    | none => Config.sioIdle s.sched.clock
  | none => Config.sioIdle s.sched.clock

end Sys2Proof.Machine
end

