-- ==== Sys2Proof/Machine/Schedule.lean ====
section
/-! DEFINITION. Which event a step handles: the environment's stimuli and the block's own timers, one event a step, in
the order of time and, within one cycle, of spec/60_exceptions.md rule R610. -/

namespace Sys2Proof.Machine

/-- What is due: its cycle, its place in R610's order, and the event that arrives (`none`: no event, that is an edge that is
not the active one, or a new source of `fm_sio_i`, which is then in `source`). `input` is the stimulus it consumes. -/
structure Due where
  time   : Nat
  rank   : Nat
  fetch  : Option Fetch
  input  : Option Nat
  source : Option SioSource
  deriving DecidableEq, Repr

/-- Whether an edge is an active one (R11, P_*_EDGE). -/
def edgeActive (e : Edge) (rise : Bool) : Bool :=
  match e with
  | .rise => rise
  | .fall => !rise
  | .both => true

/-- The event an edge gives when it is active. -/
def edgeFetch (e : Edge) (rise : Bool) (code : BitVec 5) : Option Fetch :=
  if edgeActive e rise then some (eventFetch code 0) else none

/-- What arrives when the environment acts (R139, R526). -/
def driveFetch (c : Cfg) : Drive → Option Fetch
  | .rst => some (eventFetch 0x06 0)
  | .vsync rise => edgeFetch c.vsyncEdge rise 0x02
  | .csync rise => edgeFetch c.csyncEdge rise 0x01
  | .cmp rise => edgeFetch c.cmpEdge rise 0x03
  | .host access => some { port := .hostreg, word := access.setWidth 32, tail := [] }
  | .frame mode word tail => some { port := .wire mode, word := word, tail := tail }
  | .sio _ => none

/-- The source of `fm_sio_i` that a stimulus sets (R42). -/
def driveSource : Drive → Option SioSource
  | .sio source => some source
  | _ => none

/-- The place of a stimulus in R610's order. DESIGN CHOICE: two that are not in R610's list have the ends: a new source of
`fm_sio_i`, which is a level and no event, comes first, and a frame from outside the block comes last (log entries 6
and 10). -/
def driveRank : Drive → Nat
  | .sio _ => 0
  | .rst => 1
  | .vsync _ => 4
  | .csync _ => 5
  | .cmp _ => 6
  | .host _ => 10
  | .frame _ _ _ => 11

/-- The stimuli as due; one whose cycle has passed is due now. -/
def inputDues (s : State) : Nat → List Stimulus → List Due
  | _, [] => []
  | i, q :: rest =>
    { time := max q.time s.sched.clock, rank := driveRank q.drive, fetch := driveFetch s.cfg q.drive,
      input := some i, source := driveSource q.drive } :: inputDues s (i + 1) rest

/-- A timer's event, if the timer runs. -/
def timerDue (running : Bool) (time rank : Nat) (code : BitVec 5) : List Due :=
  if running then [{ time := time, rank := rank, fetch := some (eventFetch code 0), input := none, source := none }]
  else []

/-- The next cycle whose timestamp is `stamp` (this cycle included). -/
def cycleOf (s : State) (stamp : Nat) : Nat := s.sched.clock + stampDelta s.cfg stamp (now s)

/-- The block's own timers (R612): EV_STREAM_END and EV_PIX_START of a running stream, EV_GEN_LINE and EV_REF_TICK while
EN = 1 (R31, R32), EV_XFER_DONE of the transaction in progress (R401). -/
def timerDues (s : State) : List Due :=
  timerDue s.loe.streaming (max s.sched.endDue s.sched.clock) 2 0x0B ++
  timerDue (s.loe.streaming && !s.ports.pixValid) (max s.sched.pixDue s.sched.clock) 3 0x0A ++
  timerDue (s.ctrl.enable && s.gen.running) (cycleOf s s.gen.next) 7 0x05 ++
  timerDue s.ctrl.enable (cycleOf s s.gen.refNext) 8 0x04 ++
  timerDue s.arb.xfer (max s.sched.xferDue s.sched.clock) 9 0x09

/-- Whether `a` is handled no later than `b`: by cycle, then by R610's order. -/
def dueBefore (a b : Due) : Bool := decide (a.time < b.time) || (decide (a.time = b.time) && decide (a.rank ≤ b.rank))

/-- The event handled first; of equals the earlier in the list. -/
def firstDue : List Due → Option Due
  | [] => none
  | d :: rest =>
    match firstDue rest with
    | none => some d
    | some e => if dueBefore d e then some d else some e

/-- The event the next step handles; none when nothing is pending (R10). -/
def nextDue (s : State) : Option Due := firstDue (timerDues s ++ inputDues s 0 s.inputs)

/-- Time moves to the event's cycle, and a stimulus that is handled is consumed. -/
def advance (d : Due) (s : State) : State :=
  { s with sched := { s.sched with clock := d.time },
           inputs := match d.input with
             | some i => s.inputs.eraseIdx i
             | none => s.inputs }

/-- A new source of `fm_sio_i` (R42, R608). -/
def setSource (source : Option SioSource) (s : State) : State :=
  match source with
  | some x => { s with dev := { s.dev with sio := x } }
  | none => s

end Sys2Proof.Machine
end

