-- ==== Sys2Proof/Machine/WireFrames.lean ====
section
/-! DEFINITION. The frames on the frame-memory wires as the device takes them, one meaning per row
(spec/43_frame_memory.md R413). A frame sent in a mode other than DEV_MODE makes DEV_MODE and every byte a draw. -/

namespace Sys2Proof.Machine

/-- QWRITE reaches the device: in QUAD the data bytes are stored from the address on, wrapping at P_FM_BYTES (R413). -/
def execQwrite (addr : FmAddr) (data : List Byte) (s : State) : Host.Outcome State Fault Refusal :=
  .next (devWrite s.dev.mode addr data s)

/-- QREAD reaches the device: in QUAD it returns `count` bytes (R413). -/
def execQread (addr : FmAddr) (count : Nat) (s : State) : Host.Outcome State Fault Refusal :=
  .next (devRead s.dev.mode .quad s.sched.draws addr count (nextDraw s))

/-- DREAD reaches the device: in DUAL it returns `count` bytes (R413). -/
def execDread (addr : FmAddr) (count : Nat) (s : State) : Host.Outcome State Fault Refusal :=
  .next (devRead s.dev.mode .dual s.sched.draws addr count (nextDraw s))

/-- RSTIO_Q reaches the device: DEV_MODE <- SINGLE (R413). -/
def execRstioQ (s : State) : Host.Outcome State Fault Refusal :=
  .next (devRstio s)

/-- RSTIO_D reaches the device: DEV_MODE <- SINGLE (R413). -/
def execRstioD (s : State) : Host.Outcome State Fault Refusal :=
  .next (devRstio s)

/-- RSTIO_ANY reaches the device: DEV_MODE <- SINGLE (R413, R402). -/
def execRstioAny (s : State) : Host.Outcome State Fault Refusal :=
  .next (devRstio s)

/-- EDIO_S reaches the device: in SINGLE, DEV_MODE <- DUAL (R413). -/
def execEdioS (s : State) : Host.Outcome State Fault Refusal :=
  .next (devEnter .dual s)

/-- EQIO_S reaches the device: in SINGLE, DEV_MODE <- QUAD (R413). -/
def execEqioS (s : State) : Host.Outcome State Fault Refusal :=
  .next (devEnter .quad s)

end Sys2Proof.Machine
end

