-- ==== Sys2Proof/Machine/Zones.lean ====
section
/-! DEFINITION. The line-output step by ZONE value, one meaning per row (spec/42_line_output.md R300). -/

namespace Sys2Proof.Machine

/-- The line-output step for a ZONE value that R300's dispatch has no case for (log entry 13). -/
def reservedZone (zone : BitVec 3) (s : State) : Host.Outcome State Fault Refusal :=
  if s.ctrl.outEn then .fault (.zoneNeverProduced zone) else .next s

/-- ZONE_PREROLL: the line-output step in PREROLL (R300, R301). -/
def execZonePreroll (s : State) : Host.Outcome State Fault Refusal :=
  .next (loeStepIn .preroll s)

/-- ZONE_SETUP: the line-output step in SETUP (R300, R303). -/
def execZoneSetup (s : State) : Host.Outcome State Fault Refusal :=
  .next (loeStepIn .setup s)

/-- ZONE_MODESWITCH: the line-output step in MODESWITCH (R300, R304). -/
def execZoneModeswitch (s : State) : Host.Outcome State Fault Refusal :=
  .next (loeStepIn .modeswitch s)

/-- ZONE_ACTIVE: the line-output step in ACTIVE (R300, R304). -/
def execZoneActive (s : State) : Host.Outcome State Fault Refusal :=
  .next (loeStepIn .active s)

/-- ZONE_TEARDOWN: the line-output step in TEARDOWN, idle (R300, R307). -/
def execZoneTeardown (s : State) : Host.Outcome State Fault Refusal :=
  .next (loeStepIn .teardown s)

/-- ZONE_RESERVED_5: "With OUT_EN = 0 the zone step does nothing in any zone" (R300); otherwise no rule gives a step, and the
value never occurs (R126). -/
def execZoneReserved5 (s : State) : Host.Outcome State Fault Refusal :=
  reservedZone 5 s

/-- ZONE_RESERVED_6-7: as ZONE_RESERVED_5 (R300, R126). -/
def execZoneReserved6 (low : BitVec 1) (s : State) : Host.Outcome State Fault Refusal :=
  reservedZone (3#2 ++ low) s

end Sys2Proof.Machine
end

