-- ==== Sys2Proof/Machine/Dispatch.lean ====
section
/-! DEFINITION. One arm per constructor of Instr; each is one direct call of that operation's meaning. -/

namespace Sys2Proof.Machine

def exec (i : Instr) (s : State) : Host.Outcome State Fault Refusal :=
  match i with
  | .rdCtrl => Sys2Proof.Machine.execRdCtrl s
  | .wrCtrl data => Sys2Proof.Machine.execWrCtrl data s
  | .rdVstat => Sys2Proof.Machine.execRdVstat s
  | .wrVstat data => Sys2Proof.Machine.execWrVstat data s
  | .rdVstatSet => Sys2Proof.Machine.execRdVstatSet s
  | .wrVstatSet data => Sys2Proof.Machine.execWrVstatSet data s
  | .rdVstatClr => Sys2Proof.Machine.execRdVstatClr s
  | .wrVstatClr data => Sys2Proof.Machine.execWrVstatClr data s
  | .rdLine => Sys2Proof.Machine.execRdLine s
  | .wrLine data => Sys2Proof.Machine.execWrLine data s
  | .rdLastCount => Sys2Proof.Machine.execRdLastCount s
  | .wrLastCount data => Sys2Proof.Machine.execWrLastCount data s
  | .rdField => Sys2Proof.Machine.execRdField s
  | .wrField data => Sys2Proof.Machine.execWrField data s
  | .rdElapsed => Sys2Proof.Machine.execRdElapsed s
  | .wrElapsed data => Sys2Proof.Machine.execWrElapsed data s
  | .rdIntPend => Sys2Proof.Machine.execRdIntPend s
  | .wrIntPend data => Sys2Proof.Machine.execWrIntPend data s
  | .rdIntEn => Sys2Proof.Machine.execRdIntEn s
  | .wrIntEn data => Sys2Proof.Machine.execWrIntEn data s
  | .rdFmAddrLo => Sys2Proof.Machine.execRdFmAddrLo s
  | .wrFmAddrLo data => Sys2Proof.Machine.execWrFmAddrLo data s
  | .rdFmAddrHi => Sys2Proof.Machine.execRdFmAddrHi s
  | .wrFmAddrHi data => Sys2Proof.Machine.execWrFmAddrHi data s
  | .rdFmLen => Sys2Proof.Machine.execRdFmLen s
  | .wrFmLen data => Sys2Proof.Machine.execWrFmLen data s
  | .rdFmCmd => Sys2Proof.Machine.execRdFmCmd s
  | .wrFmCmd data => Sys2Proof.Machine.execWrFmCmd data s
  | .rdFmStat => Sys2Proof.Machine.execRdFmStat s
  | .wrFmStat data => Sys2Proof.Machine.execWrFmStat data s
  | .rdFmWdata => Sys2Proof.Machine.execRdFmWdata s
  | .wrFmWdata data => Sys2Proof.Machine.execWrFmWdata data s
  | .rdFmBufptr => Sys2Proof.Machine.execRdFmBufptr s
  | .wrFmBufptr data => Sys2Proof.Machine.execWrFmBufptr data s
  | .rdFmRdata => Sys2Proof.Machine.execRdFmRdata s
  | .wrFmRdata data => Sys2Proof.Machine.execWrFmRdata data s
  | .rdOutResW => Sys2Proof.Machine.execRdOutResW s
  | .wrOutResW data => Sys2Proof.Machine.execWrOutResW data s
  | .rdOutResH => Sys2Proof.Machine.execRdOutResH s
  | .wrOutResH data => Sys2Proof.Machine.execWrOutResH data s
  | .rdDbgSr => Sys2Proof.Machine.execRdDbgSr s
  | .wrDbgSr data => Sys2Proof.Machine.execWrDbgSr data s
  | .rdDbgSrcnt => Sys2Proof.Machine.execRdDbgSrcnt s
  | .wrDbgSrcnt data => Sys2Proof.Machine.execWrDbgSrcnt data s
  | .rdDbgLastline => Sys2Proof.Machine.execRdDbgLastline s
  | .wrDbgLastline data => Sys2Proof.Machine.execWrDbgLastline data s
  | .rdDbgAddrLo => Sys2Proof.Machine.execRdDbgAddrLo s
  | .wrDbgAddrLo data => Sys2Proof.Machine.execWrDbgAddrLo data s
  | .rdDbgAddrHi => Sys2Proof.Machine.execRdDbgAddrHi s
  | .wrDbgAddrHi data => Sys2Proof.Machine.execWrDbgAddrHi data s
  | .rdP0Hsize => Sys2Proof.Machine.execRdP0Hsize s
  | .wrP0Hsize data => Sys2Proof.Machine.execWrP0Hsize data s
  | .rdP0Top => Sys2Proof.Machine.execRdP0Top s
  | .wrP0Top data => Sys2Proof.Machine.execWrP0Top data s
  | .rdP0Bot => Sys2Proof.Machine.execRdP0Bot s
  | .wrP0Bot data => Sys2Proof.Machine.execWrP0Bot data s
  | .rdP0Hoff => Sys2Proof.Machine.execRdP0Hoff s
  | .wrP0Hoff data => Sys2Proof.Machine.execWrP0Hoff data s
  | .rdP0Scan => Sys2Proof.Machine.execRdP0Scan s
  | .wrP0Scan data => Sys2Proof.Machine.execWrP0Scan data s
  | .rdP1Hsize => Sys2Proof.Machine.execRdP1Hsize s
  | .wrP1Hsize data => Sys2Proof.Machine.execWrP1Hsize data s
  | .rdP1Top => Sys2Proof.Machine.execRdP1Top s
  | .wrP1Top data => Sys2Proof.Machine.execWrP1Top data s
  | .rdP1Bot => Sys2Proof.Machine.execRdP1Bot s
  | .wrP1Bot data => Sys2Proof.Machine.execWrP1Bot data s
  | .rdP1Hoff => Sys2Proof.Machine.execRdP1Hoff s
  | .wrP1Hoff data => Sys2Proof.Machine.execWrP1Hoff data s
  | .rdP1Scan => Sys2Proof.Machine.execRdP1Scan s
  | .wrP1Scan data => Sys2Proof.Machine.execWrP1Scan data s
  | .reserved19 write data => Sys2Proof.Machine.execReserved19 write data s
  | .reserved1A write low data => Sys2Proof.Machine.execReserved1A write low data s
  | .reserved1C write low data => Sys2Proof.Machine.execReserved1C write low data s
  | .reserved25 write data => Sys2Proof.Machine.execReserved25 write data s
  | .reserved26 write low data => Sys2Proof.Machine.execReserved26 write low data s
  | .reserved2D write data => Sys2Proof.Machine.execReserved2D write data s
  | .reserved2E write low data => Sys2Proof.Machine.execReserved2E write low data s
  | .reserved30 write low data => Sys2Proof.Machine.execReserved30 write low data s
  | .reserved40 write low data => Sys2Proof.Machine.execReserved40 write low data s
  | .reserved80 write low data => Sys2Proof.Machine.execReserved80 write low data s
  | .fmNop => Sys2Proof.Machine.execFmNop s
  | .fmInit => Sys2Proof.Machine.execFmInit s
  | .fmWrite => Sys2Proof.Machine.execFmWrite s
  | .fmRead => Sys2Proof.Machine.execFmRead s
  | .fmReserved4 low => Sys2Proof.Machine.execFmReserved4 low s
  | .fmReserved8 low => Sys2Proof.Machine.execFmReserved8 low s
  | .qwrite addr data => Sys2Proof.Machine.execQwrite addr data s
  | .qread addr count => Sys2Proof.Machine.execQread addr count s
  | .dread addr count => Sys2Proof.Machine.execDread addr count s
  | .rstioQ => Sys2Proof.Machine.execRstioQ s
  | .rstioD => Sys2Proof.Machine.execRstioD s
  | .rstioAny => Sys2Proof.Machine.execRstioAny s
  | .edioS => Sys2Proof.Machine.execEdioS s
  | .eqioS => Sys2Proof.Machine.execEqioS s
  | .evCsync => Sys2Proof.Machine.execEvCsync s
  | .evVsync => Sys2Proof.Machine.execEvVsync s
  | .evCmp => Sys2Proof.Machine.execEvCmp s
  | .evRefTick => Sys2Proof.Machine.execEvRefTick s
  | .evGenLine => Sys2Proof.Machine.execEvGenLine s
  | .evReset => Sys2Proof.Machine.execEvReset s
  | .evHostWr addr data => Sys2Proof.Machine.execEvHostWr addr data s
  | .evHostRd addr => Sys2Proof.Machine.execEvHostRd addr s
  | .evXferDone => Sys2Proof.Machine.execEvXferDone s
  | .evPixStart => Sys2Proof.Machine.execEvPixStart s
  | .evStreamEnd => Sys2Proof.Machine.execEvStreamEnd s
  | .lineEvent => Sys2Proof.Machine.execLineEvent s
  | .vsyncEvent kind value => Sys2Proof.Machine.execVsyncEvent kind value s
  | .timeoutSwitch => Sys2Proof.Machine.execTimeoutSwitch s
  | .zonePreroll => Sys2Proof.Machine.execZonePreroll s
  | .zoneSetup => Sys2Proof.Machine.execZoneSetup s
  | .zoneModeswitch => Sys2Proof.Machine.execZoneModeswitch s
  | .zoneActive => Sys2Proof.Machine.execZoneActive s
  | .zoneTeardown => Sys2Proof.Machine.execZoneTeardown s
  | .zoneReserved5 => Sys2Proof.Machine.execZoneReserved5 s
  | .zoneReserved6 low => Sys2Proof.Machine.execZoneReserved6 low s

end Sys2Proof.Machine
end

