-- ==== Sys2Proof/Machine/Step.lean ====
section
/-! DEFINITION. One step: the held operation if there is one, otherwise the next event (Schedule.lean); it is decoded
and run. -/

namespace Sys2Proof.Machine

/-- Decode what has arrived and run it. -/
def runFetch (f : Fetch) (s : State) : Host.Outcome State Fault Refusal :=
  match decode s.cfg.cmds f with
  | .ok i => exec i s
  | .error e => .refused (.undecodable e)

/-- One step of the machine (R9: "A step handles one event completely"). -/
def step (s : State) : Host.Outcome State Fault Refusal :=
  match s.held with
  | some f => runFetch f { s with held := none }
  | none =>
    match nextDue s with
    | none => .refused .noEventPending
    | some d =>
      match d.fetch with
      | none => .next (setSource d.source (advance d s))
      | some f => runFetch f (advance d s)

/-- `s` with a table word as the operation of the next step: it stands in `held`, which the next step runs before it
selects any event. -/
def State.withFetchWord (s : State) (nbits w : Nat) : State := { s with held := some (tableFetch nbits w) }

end Sys2Proof.Machine
end

