-- ==== Sys2Proof/Safety.lean ====
section
/-! DEFINITION. What a run keeps: the invariants of the block (spec/10_state.md R32, R45, R46; spec/41_sync_detector.md
R205; spec/43_frame_memory.md R400, R413), and the words in which the statements are written. -/

namespace Sys2Proof.Machine

/-- Ownership of the frame-memory bus (R45, R46, R91, R400). `nothingHeld`: no word placed by `withFetchWord` waits, so
that the next step handles an event of R610. -/
structure BusInv (s : State) : Prop where
  nothingHeld : s.held = none
  /-- R45: `BUSY = 1` if and only if ZONE is SETUP, MODESWITCH or ACTIVE. -/
  busyIff : s.loe.busy = true ↔ s.loe.zone = .setup ∨ s.loe.zone = .modeswitch ∨ s.loe.zone = .active
  /-- R46: FM_MODE is DUAL only while ZONE is MODESWITCH or ACTIVE; it is DUAL throughout those zones. -/
  dualIff : s.arb.mode = .dual ↔ s.loe.zone = .modeswitch ∨ s.loe.zone = .active
  /-- R46: XFER = 1 only while FM_MODE is QUAD, or while XFER_KIND is INIT. -/
  xferMode : s.arb.xfer = true → s.arb.mode = .quad ∨ s.arb.kind = .init
  /-- R400: a transaction and the dual mode never overlap. -/
  oneOwner : s.arb.xfer = true → s.arb.mode ≠ .dual
  /-- R46, R37: an initialised device is in a known mode. -/
  readyKnown : s.arb.ready = true → s.arb.mode ≠ .unknown
  /-- R313: a row is on the wires only in the active zone. -/
  streamingActive : s.loe.streaming = true → s.loe.zone = .active
  /-- R313: pixels are valid only while a row is on the wires. -/
  pixelsStream : s.ports.pixValid = true → s.loe.streaming = true

/-- Who drives the line events (R32, R205, R213). -/
structure SyncInv (s : State) : Prop where
  nothingHeld : s.held = none
  /-- R32: GEN_ON = 1 exactly while SYNC_SRC = 0 and EN = 1. -/
  generatorIff : s.gen.running = true ↔ s.vstat.srcExt = false ∧ s.ctrl.enable = true
  /-- R205: with VLOCK = 1, SYNC_SRC is 1. -/
  lockExternal : s.cnt.vlock = true → s.vstat.srcExt = true
  /-- R213: sync_oe = 1 while GEN_ON = 1, and 0 otherwise. -/
  outputEnable : s.ports.syncOe = s.gen.running

/-- The two memories keep their one form, inside the device and inside the buffer (R43, R80, R84, R516). -/
structure MemInv (s : State) : Prop where
  deviceForm : Memory.wf s.dev.mem = true
  deviceRange : ∀ c ∈ s.dev.mem, c.1 < s.cfg.fmBytes
  bufferForm : Memory.wf s.arb.buf = true
  bufferRange : ∀ c ∈ s.arb.buf, c.1 < s.cfg.bufDepth
  pointerRange : s.arb.bufPtr.toNat < s.cfg.bufDepth

/-- The device is in the wire mode the arbiter believes it is in (R413), as long as nothing outside the block puts a frame
on the wires. -/
structure DeviceInv (s : State) : Prop where
  nothingHeld : s.held = none
  undisturbed : ∀ q ∈ s.inputs, ∀ mode word tail, q.drive ≠ .frame mode word tail
  quadTracks : s.arb.mode = .quad → s.dev.mode = .quad
  dualTracks : s.arb.mode = .dual → s.dev.mode = .dual
  /-- R402: the frame of a WRITE or READ in progress started in quad mode. -/
  startQuad : s.arb.xfer = true → s.arb.kind ≠ .init → s.sched.xferMode = .quad

/-- Values that stay in their stated ranges (R9, R29, R32, R22), for a pulse table whose field-start lines are lines of
the frame (R144). -/
structure RangeInv (s : State) : Prop where
  tableStart : ∀ std, 1 ≤ (s.cfg.genTable std).field1 ∧ (s.cfg.genTable std).field1 ≤ frameLines std
  captureStamp : s.det.capLast < 2 ^ s.cfg.tsW
  csyncStamp : s.det.csLast < 2 ^ s.cfg.tsW
  tickStamp : s.gen.refNext < 2 ^ s.cfg.tsW
  lineStamp : s.gen.next < 2 ^ s.cfg.tsW
  /-- R29: SR_CNT is 0..16. -/
  countRange : s.det.srCnt.toNat ≤ 16
  /-- R32: GEN_LINE is a line of the generated frame while the generator runs. -/
  lineRange : s.gen.running = true → 1 ≤ s.gen.line.toNat ∧ s.gen.line.toNat ≤ frameLines s.gen.std
  /-- R22: SYNC_MODE is 1 on hardware without external sync pins. -/
  modeFixed : s.cfg.hasExtSync = false → s.ctrl.syncMode = true

/-! ### The words of the statements -/

/-- `s` after a host read of address `a` that returned `v` and had no side effect: `h_rdata` holds `v`, and the read is
observed (R526, R10). -/
def afterRead (a : RegAddr) (v : Word) (s : State) : State :=
  { s with ports := { s.ports with hRdata := v }, trace := { s.trace with reads := ⟨a, v⟩ :: s.trace.reads } }

/-- INT_PEND with the bits `b` raised at this cycle (R603); INT_EN does not change. -/
def irqAfter (b : BitVec 10) (s : State) : Interrupts :=
  { pend := s.irq.pend ||| b, en := s.irq.en,
    raised := (if s.irq.raisedAt = s.sched.clock then s.irq.raised else 0) ||| b, raisedAt := s.sched.clock }

/-- The five zones and the operation of format ZONE that each decodes to (R120, R126). -/
def zoneRow : Zone → Instr
  | .preroll => .zonePreroll
  | .setup => .zoneSetup
  | .modeswitch => .zoneModeswitch
  | .active => .zoneActive
  | .teardown => .zoneTeardown

/-- Whether LOE holds the bus in a zone: SETUP, MODESWITCH or ACTIVE (R45). -/
abbrev holdsBus (z : Zone) : Prop := z = .setup ∨ z = .modeswitch ∨ z = .active

/-- The newest row record with `min(floor((now − t_pix) / PIX_DIV), 4·RW)` pixels streamed, as a cut at this cycle leaves
it; the other records are as they were (R313; log entry 23). -/
def rowsCut (s : State) : List Row :=
  match s.trace.rows with
  | [] => []
  | r :: rest =>
    { r with streamed := min ((s.sched.clock - s.sched.pixDue) / s.loe.pixDiv) (4 * s.loe.rw.toNat) } :: rest

/-- The record of the wires with every frame ended by this cycle (`fm_cs_n <- 1`, R313, R410). -/
def framesEnded (s : State) : List WireRec :=
  s.trace.frames.map (fun r => if r.stop ≤ s.sched.clock then r else { r with stop := max r.start s.sched.clock })

/-- The record of a mode switch that begins at this cycle, newest first (R411, R412): the mode-exit frame of `n` clocks,
P_MS_EXTRA_CLKS toggles, and the 8 clocks of the mode-enter frame, back to back. -/
def switchFrames (s : State) (leave : Frame) (n : Nat) (enter : Frame) : List WireRec :=
  [⟨enter, s.sched.clock + (n + s.cfg.msExtra) * s.cfg.fmSckDiv,
      s.sched.clock + (n + s.cfg.msExtra + 8) * s.cfg.fmSckDiv, s.cfg.fmSckDiv,
      s.sched.clock + (n + s.cfg.msExtra) * s.cfg.fmSckDiv⟩,
   ⟨.toggles s.cfg.msExtra, s.sched.clock + n * s.cfg.fmSckDiv,
      s.sched.clock + (n + s.cfg.msExtra) * s.cfg.fmSckDiv, s.cfg.fmSckDiv,
      s.sched.clock + n * s.cfg.fmSckDiv⟩,
   ⟨leave, s.sched.clock, s.sched.clock + n * s.cfg.fmSckDiv, s.cfg.fmSckDiv, s.sched.clock⟩]

/-- What a forced teardown (R306) makes of `s`: a running stream is cut (its row's count of streamed pixels is final and its
DREAD ends at this cycle), a device in dual mode goes back to quad mode by RSTIO_D, the toggles and EQIO_S, BUSY is 0, ZONE
is PREROLL and ABORT (bit 5) is pending. Nothing else changes. -/
def Aborted (s a : State) : Prop :=
  a = { s with
    loe := { s.loe with streaming := false, busy := false, zone := .preroll },
    ports := { s.ports with pixValid := if s.loe.streaming then false else s.ports.pixValid },
    arb := { s.arb with mode := if s.arb.mode = .dual then .quad else s.arb.mode },
    dev := { s.dev with mode := if s.arb.mode = .dual then .quad else s.dev.mode },
    irq := irqAfter 0x020 s,
    trace := { s.trace with
      rows := if s.loe.streaming then rowsCut s else s.trace.rows,
      frames := (if s.arb.mode = .dual then switchFrames s .rstioD 4 .eqioS else []) ++
        (if s.loe.streaming then framesEnded s else s.trace.frames) } }

/-- The level listed for data clock `j` of a read frame; any level (draw `k`) past the list (R42, R608; log entry 6). -/
def dataLevel (k : Nat) (levels : List (BitVec 4)) (j : Nat) : Nat :=
  match levels[j]? with
  | some v => v.toNat
  | none => (Config.drawByte k j).toNat % 16

/-- The bytes that come in on `fm_sio_i` in a read frame of mode `m` that started with the device in mode `start` (R413, R42,
R608): the device's bytes from address `a` on, byte `i` of draw `k` where nothing was written or where the frame is of
another mode; or what something drives in the device's place, two quad or four dual data clocks a byte, most significant
bits first (R137). -/
def bytesIn (s : State) (start m : DevMode) (k a n : Nat) : List Byte :=
  (List.range n).map (fun i =>
    match s.dev.sio with
    | .device =>
      if start = m then
        match memRead s.dev.mem ((a + i) % s.cfg.fmBytes) with
        | some b => b
        | none => Config.drawByte k i
      else Config.drawByte k i
    | .lines levels =>
      if m = .quad then BitVec.ofNat 8 (16 * dataLevel k levels (2 * i) + dataLevel k levels (2 * i + 1))
      else BitVec.ofNat 8 (64 * (dataLevel k levels (4 * i) % 4) + 16 * (dataLevel k levels (4 * i + 1) % 4) +
        4 * (dataLevel k levels (4 * i + 2) % 4) + dataLevel k levels (4 * i + 3) % 4))

/-- What the mode-switch step makes of `s` when it switches, with HSTART given (R303, R411): RSTIO_Q, the extra toggles and
EDIO_S go out, the device and FM_MODE end in DUAL, and FIRST is 1. -/
def switched (s : State) (hstart : BitVec 17) : State :=
  { s with
    loe := { s.loe with first := true, hstart := hstart, zone := .modeswitch },
    arb := { s.arb with mode := .dual },
    dev := { s.dev with mode := .dual },
    trace := { s.trace with frames := switchFrames s .rstioQ 2 .edioS ++ s.trace.frames } }

/-- `t` is what an active step makes of `s` when it outputs a row, with the HSTART of the next line given (R304, R312, R313,
R140): the RW bytes at ADDR are recorded as a row with its line and parity, four pixels a byte from the most significant
pair; the stream starts, its events due at max(HSTART, H) and 4·RW·PIX_DIV later; ADDR advances by STRIDE modulo 2^24. In
dual mode the device is as it was; in another mode its memory and its mode are draws (R413). -/
def RowSent (s : State) (hstart : BitVec 17) (t : State) : Prop :=
  ∃ (row : Row) (bytes : List Byte) (pix stop : Nat),
    bytes = bytesIn s s.dev.mode .dual s.sched.draws s.loe.addr.toNat s.loe.rw.toNat ∧
    pix = s.sched.clock + max s.loe.hstart.toNat ((16 + s.cfg.dummyDual) * s.loe.pixDiv) ∧
    stop = pix + 4 * s.loe.rw.toNat * s.loe.pixDiv ∧
    row.line = s.cnt.line ∧ row.parity = s.cnt.parity ∧ row.addr = s.loe.addr ∧ row.streamed = 0 ∧
    row.pixels.length = 4 * s.loe.rw.toNat ∧
    (∀ (k : Nat) (b : Byte), bytes[k]? = some b →
      row.pixels[4 * k]? = some (BitVec.ofNat 2 (b.toNat / 64)) ∧
      row.pixels[4 * k + 1]? = some (BitVec.ofNat 2 (b.toNat / 16 % 4)) ∧
      row.pixels[4 * k + 2]? = some (BitVec.ofNat 2 (b.toNat / 4 % 4)) ∧
      row.pixels[4 * k + 3]? = some (BitVec.ofNat 2 (b.toNat % 4))) ∧
    t = { s with
      loe := { s.loe with
        addr := BitVec.ofNat 24 (s.loe.addr.toNat + s.loe.stride.toNat), first := false, hstart := hstart,
        zone := .active, streaming := true },
      ports := { s.ports with pixValid := false },
      dev := { s.dev with
        mem := if s.dev.mode = .dual then s.dev.mem else [],
        mode := if s.dev.mode = .dual then .dual else Config.drawMode (s.sched.draws + 1), out := bytes },
      sched := { s.sched with
        pixDue := pix, endDue := stop, draws := s.sched.draws + (if s.dev.mode = .dual then 1 else 2) },
      trace := { s.trace with
        rows := row :: s.trace.rows,
        frames := { frame := .dread s.loe.addr s.loe.rw.toNat, start := s.sched.clock, stop := stop,
                    div := s.loe.pixDiv, resume := pix } :: s.trace.frames } }

/-- The state `n` cycles later, if no event comes before: only time has passed. -/
def later (n : Nat) (s : State) : State := { s with sched := { s.sched with clock := s.sched.clock + n } }

/-- `sync_out` `n` cycles after the cycle of `s`, if no event comes before (R213). -/
def syncOutAfter (n : Nat) (s : State) : Bool := pinSyncOut (later n s)

/-- The pulses of the generated line that begins at this cycle (R213): `sync_out` is low exactly in the window of the line's
first slot and in that of its second, which begins half a line period later. -/
def LinePulses (t : State) : Prop :=
  ∀ n : Nat, syncOutAfter n t = false ↔
    n < t.cfg.slotWidth t.gen.std ((t.cfg.genTable t.gen.std).slots t.gen.line.toNat).1 ∨
    (t.cfg.genLineClks.value t.gen.std / 2 ≤ n ∧
      n < t.cfg.genLineClks.value t.gen.std / 2 +
        t.cfg.slotWidth t.gen.std ((t.cfg.genTable t.gen.std).slots t.gen.line.toNat).2)

/-- Whether an edge is an active one of its input (R11, P_CSYNC_EDGE, P_VSYNC_EDGE, P_CMP_EDGE). -/
def ActiveEdge (e : Edge) (rise : Bool) : Prop := e = .both ∨ (e = .rise ∧ rise = true) ∨ (e = .fall ∧ rise = false)

/-- An event of R139 with no operand. -/
def event (code : BitVec 32) : Fetch := ⟨.event, code, []⟩

/-- `cycle` is the first cycle from this one on whose timestamp is `stamp` (R9, R31, R32). -/
def StampCycle (s : State) (stamp cycle : Nat) : Prop :=
  s.sched.clock ≤ cycle ∧ cycle < s.sched.clock + 2 ^ s.cfg.tsW ∧ cycle % 2 ^ s.cfg.tsW = stamp % 2 ^ s.cfg.tsW

/-- The event `f` is pending at `cycle` (R139, R612): from a timer of the block that runs, or from the stimulus number `i`
of the environment. A stimulus whose cycle has passed is pending now (log entry 11). -/
inductive Pending (s : State) : (cycle : Nat) → (f : Fetch) → (i : Option Nat) → Prop where
  /-- EV_STREAM_END at t_end of the running row (R313) -/
  | streamEnd : s.loe.streaming = true → Pending s (max s.sched.endDue s.sched.clock) (event 0x0B) none
  /-- EV_PIX_START at t_pix of the running row, once (R313) -/
  | pixStart : s.loe.streaming = true → s.ports.pixValid = false →
      Pending s (max s.sched.pixDue s.sched.clock) (event 0x0A) none
  /-- EV_GEN_LINE when `now = GEN_NEXT` (R212) -/
  | genLine (cycle : Nat) : s.ctrl.enable = true → s.gen.running = true → StampCycle s s.gen.next cycle →
      Pending s cycle (event 0x05) none
  /-- EV_REF_TICK when `now = REF_NEXT` (R31, R210) -/
  | refTick (cycle : Nat) : s.ctrl.enable = true → StampCycle s s.gen.refNext cycle → Pending s cycle (event 0x04) none
  /-- EV_XFER_DONE at the due cycle of the transaction (R401) -/
  | xferDone : s.arb.xfer = true → Pending s (max s.sched.xferDue s.sched.clock) (event 0x09) none
  /-- EV_RESET: `rst` high (R700) -/
  | reset (i t : Nat) : s.inputs[i]? = some ⟨t, .rst⟩ → Pending s (max t s.sched.clock) (event 0x06) (some i)
  /-- EV_VSYNC: an active edge on `vsync_in` (R203) -/
  | vsync (i t : Nat) (rise : Bool) : s.inputs[i]? = some ⟨t, .vsync rise⟩ → ActiveEdge s.cfg.vsyncEdge rise →
      Pending s (max t s.sched.clock) (event 0x02) (some i)
  /-- EV_CSYNC: an active edge on `csync_in` (R202) -/
  | csync (i t : Nat) (rise : Bool) : s.inputs[i]? = some ⟨t, .csync rise⟩ → ActiveEdge s.cfg.csyncEdge rise →
      Pending s (max t s.sched.clock) (event 0x01) (some i)
  /-- EV_CMP: a captured edge on `cmp_in` (R205) -/
  | cmp (i t : Nat) (rise : Bool) : s.inputs[i]? = some ⟨t, .cmp rise⟩ → ActiveEdge s.cfg.cmpEdge rise →
      Pending s (max t s.sched.clock) (event 0x03) (some i)
  /-- the access word on the host bus (R526) -/
  | host (i t : Nat) (access : BitVec 25) : s.inputs[i]? = some ⟨t, .host access⟩ →
      Pending s (max t s.sched.clock) ⟨.hostreg, access.setWidth 32, []⟩ (some i)
  /-- a frame from outside the block (R413; log entry 10) -/
  | frame (i t : Nat) (mode : WireMode) (word : BitVec 32) (tail : List Byte) :
      s.inputs[i]? = some ⟨t, .frame mode word tail⟩ →
      Pending s (max t s.sched.clock) ⟨.wire mode, word, tail⟩ (some i)

/-- The events of one cycle in R610's order: EV_RESET, EV_STREAM_END, EV_PIX_START, EV_VSYNC, EV_CSYNC, EV_CMP,
EV_GEN_LINE, EV_REF_TICK, EV_XFER_DONE. -/
def cycleOrder : List (BitVec 32) := [0x06, 0x0B, 0x0A, 0x02, 0x01, 0x03, 0x05, 0x04, 0x09]

/-- The place of an event in its cycle (R610): the events of `cycleOrder`, then the host access; a frame from outside the
block, which R610 does not name, comes last (log entry 10). -/
def placeInCycle (f : Fetch) : Nat :=
  match f.port with
  | .event => cycleOrder.idxOf f.word
  | .hostreg => 9
  | _ => 10

/-- The mode and the bytes that the arbiter drives in a frame (R85, R136, R137): the command byte, the three address bytes
from the most significant on, the write data. RSTIO_ANY is four quad bytes of ones. -/
inductive FrameDrives (c : CmdBytes) : Frame → DevMode → List Nat → Prop where
  | qwrite (a : FmAddr) (data : List Byte) : FrameDrives c (.qwrite a data) .quad
      ([c.write.toNat, a.toNat / 65536, a.toNat / 256 % 256, a.toNat % 256] ++ data.map BitVec.toNat)
  | qread (a : FmAddr) (n : Nat) : FrameDrives c (.qread a n) .quad
      [c.read.toNat, a.toNat / 65536, a.toNat / 256 % 256, a.toNat % 256]
  | dread (a : FmAddr) (n : Nat) : FrameDrives c (.dread a n) .dual
      [c.read.toNat, a.toNat / 65536, a.toNat / 256 % 256, a.toNat % 256]
  | rstioQ : FrameDrives c .rstioQ .quad [c.rstio.toNat]
  | rstioD : FrameDrives c .rstioD .dual [c.rstio.toNat]
  | rstioAny : FrameDrives c .rstioAny .quad [255, 255, 255, 255]
  | edioS : FrameDrives c .edioS .single [c.edio.toNat]
  | eqioS : FrameDrives c .eqioS .single [c.eqio.toNat]

/-- Whether the frame `r` starts in the very cycle in which another frame ends or is cut, with `before` the records older
than `r`, newest first: the newest of them that started earlier is a frame, not the toggles of a mode switch, and has not
ended before. -/
def StartsAtAnEnd (before : List WireRec) (r : WireRec) : Prop :=
  ∃ (between older : List WireRec) (q : WireRec), before = between ++ q :: older ∧ (∀ x ∈ between, r.start ≤ x.start) ∧
    q.start < r.start ∧ r.start ≤ q.stop ∧ ∀ m : Nat, q.frame ≠ .toggles m

/-- What `fm_sio_oe` and `fm_sio_o` are in clock `k` of a frame that drives these bytes in this mode (R137): two quad, four
dual or eight single clocks a byte, the higher bit on the higher line; after the last byte the lines are released. -/
def ClockDrives (s : State) (m : DevMode) (bytes : List Nat) (k : Nat) : Prop :=
  match m with
  | .quad =>
    (∀ b, bytes[k / 2]? = some b → pinFmSioOe s = 0xF ∧ (pinFmSioO s).toNat = b / 16 ^ (1 - k % 2) % 16) ∧
    (bytes[k / 2]? = none → pinFmSioOe s = 0)
  | .dual =>
    (∀ b, bytes[k / 4]? = some b → pinFmSioOe s = 0x3 ∧ (pinFmSioO s).toNat % 4 = b / 4 ^ (3 - k % 4) % 4) ∧
    (bytes[k / 4]? = none → pinFmSioOe s = 0)
  | .single =>
    (∀ b, bytes[k / 8]? = some b → pinFmSioOe s = 0x1 ∧ (pinFmSioO s).toNat % 2 = b / 2 ^ (7 - k % 8) % 2) ∧
    (bytes[k / 8]? = none → pinFmSioOe s = 0)

/-- `n` line events one after another. -/
def runLines : Nat → State → Host.Outcome State Fault Refusal
  | 0, s => .next s
  | n + 1, s =>
    match exec .lineEvent s with
    | .next t => runLines n t
    | .fault f => .fault f
    | .refused r => .refused r

end Sys2Proof.Machine
end

