-- ==== Sys2Proof/Certificates/Slice0/Obligations.lean ====
section
/-! DEFINITION. The statements for the provers. Each docstring names the rules it formalises; a statement marked "model's
choice" rests on a log entry. Words are given as numbers or record literals written from the spec's layouts, not through
the model's own register functions. -/

open Sys2Proof Sys2Proof.Machine

/-! ### Encoding -/

/-- A few words written out from R120, R130, R136, R137, R139 and R126. -/
def Obligations.ListedWordsDecode : Prop :=
  decode CmdBytes.default ⟨.hostreg, 0x01000003, []⟩ = .ok (.wrCtrl 0x0003) ∧
  decode CmdBytes.default ⟨.hostreg, 0x000E0000, []⟩ = .ok .rdFmStat ∧
  decode CmdBytes.default ⟨.hostreg, 0x01230258, []⟩ = .ok (.wrP0Hoff 600) ∧
  decode CmdBytes.default ⟨.hostreg, 0x0130FFFF, []⟩ = .ok (.reserved30 true 0 0xFFFF) ∧
  decode CmdBytes.default ⟨.fmcmd, 0x0002, []⟩ = .ok .fmWrite ∧
  decode CmdBytes.default ⟨.wire .quad, 0x69000002, [0xAA, 0x55, 0x0F]⟩ = .ok (.qwrite 0x000069 [0xAA, 0x55, 0x0F]) ∧
  decode CmdBytes.default ⟨.wire .single, 0x0000003B, []⟩ = .ok .edioS ∧
  decode CmdBytes.default ⟨.event, 0x0A, []⟩ = .ok .evPixStart ∧
  decode CmdBytes.default ⟨.zone, 3, []⟩ = .ok .zoneActive

/-- Decoding the encoding of any operation gives it back, whatever the operands and whatever distinct command bytes the
parameters choose (R120 to R122, R130, R136, R137, R139). -/
def Obligations.DecodeEncodeAgree : Prop :=
  ∀ (c : CmdBytes) (i : Instr), c.distinct = true → decode c (encode c i) = .ok i

/-- Encoding what was decoded gives the word back: every write access word, every access word of a reserved address,
every read access word with data 0, every FM_CMD opcode and every ZONE value has one meaning (R120, R147). -/
def Obligations.EncodeDecodeAgree : Prop :=
  ∀ c : CmdBytes,
    (∀ access : BitVec 25,
      (access.getLsbD 24 = true ∨ access.extractLsb' 0 16 = 0 ∨ regOf (access.extractLsb' 16 8) = none) →
        encode c (decodeHost access) = ⟨.hostreg, access.setWidth 32, []⟩) ∧
    (∀ op : BitVec 4, encode c (decodeFmCmd op) = ⟨.fmcmd, op.setWidth 32, []⟩) ∧
    (∀ z : BitVec 3, encode c (decodeZone z) = ⟨.zone, z.setWidth 32, []⟩)

/-! ### The step -/

/-- A step runs the decoded operation: the held word first; otherwise the event that is due, at its cycle, its stimulus
consumed; an edge that is not the active one is passed over, and a new source of `fm_sio_i` is taken; with nothing due the
run has ended (R9, R10, R139). A word placed by `withFetchWord` is the operation of the next step, for the command bytes of
R136. Model's choices: the held word that comes first (log entry 9), the stimuli that are consumed and the inactive edges
that are passed over (log entry 11), the source of `fm_sio_i` (log entry 6), the formats of a table word (log entry 12). -/
def Obligations.StepRunsDecoded : Prop :=
  (∀ (s : State) (f : Fetch) (i : Instr), s.held = some f → decode s.cfg.cmds f = .ok i →
    step s = exec i { s with held := none }) ∧
  (∀ (s : State) (d : Due) (f : Fetch) (i : Instr),
    s.held = none → nextDue s = some d → d.fetch = some f → decode s.cfg.cmds f = .ok i →
      step s = exec i { s with
        sched := { s.sched with clock := d.time },
        inputs := match d.input with
          | some k => s.inputs.eraseIdx k
          | none => s.inputs }) ∧
  (∀ (s : State) (d : Due), s.held = none → nextDue s = some d → d.fetch = none →
    step s = .next { advance d s with dev := { s.dev with sio := match d.source with
      | some x => x
      | none => s.dev.sio } }) ∧
  (∀ s : State, s.held = none → nextDue s = none → step s = .refused .noEventPending) ∧
  (∀ (s : State) (nbits w : Nat) (i : Instr),
    s.cfg.cmds = CmdBytes.default → decodeTableWord nbits w = some i →
      step (s.withFetchWord nbits w) = exec i { s with held := none })

/-- The event a step handles is one that a timer or a stimulus makes pending (the words `Pending`, `StampCycle` and
`ActiveEdge` say which one gives which event code, and at which cycle: R139, R31, R32, R313, R401); no pending event is
earlier, and none of its own cycle comes before it in R610's order, which `cycleOrder` writes out over the event codes:
EV_RESET, EV_STREAM_END, EV_PIX_START, EV_VSYNC, EV_CSYNC, EV_CMP, EV_GEN_LINE, EV_REF_TICK, EV_XFER_DONE, then the host
access. What is passed over as no event is an edge that is not the active one or a new source of `fm_sio_i`, and no pending
event is earlier than it. Nothing is due exactly when no timer runs and the environment does nothing more. Model's choices:
a stimulus whose cycle has passed is pending now, inactive edges are consumed, and timers run by the next matching
timestamp (log entry 11); a frame from outside the block comes last in its cycle (log entry 10); a new source of `fm_sio_i`
is no event (log entry 6). -/
def Obligations.NextDueIsFirst : Prop :=
  (∀ (s : State) (d : Due) (f : Fetch), nextDue s = some d → d.fetch = some f →
    Pending s d.time f d.input ∧ s.sched.clock ≤ d.time ∧
    ∀ (cycle : Nat) (g : Fetch) (i : Option Nat), Pending s cycle g i →
      d.time < cycle ∨ (d.time = cycle ∧ placeInCycle f ≤ placeInCycle g)) ∧
  (∀ (s : State) (d : Due), nextDue s = some d → d.fetch = none →
    (∃ (k t : Nat) (drive : Drive), d.input = some k ∧ s.inputs[k]? = some ⟨t, drive⟩ ∧ d.time = max t s.sched.clock ∧
      ((∃ x : SioSource, drive = .sio x ∧ d.source = some x) ∨
       (d.source = none ∧ ∃ rise : Bool,
         (drive = .vsync rise ∧ ¬ActiveEdge s.cfg.vsyncEdge rise) ∨
         (drive = .csync rise ∧ ¬ActiveEdge s.cfg.csyncEdge rise) ∨
         (drive = .cmp rise ∧ ¬ActiveEdge s.cfg.cmpEdge rise)))) ∧
    ∀ (cycle : Nat) (g : Fetch) (i : Option Nat), Pending s cycle g i → d.time ≤ cycle) ∧
  (∀ s : State, nextDue s = none ↔
    s.inputs = [] ∧ s.loe.streaming = false ∧ s.ctrl.enable = false ∧ s.arb.xfer = false)

/-! ### Host register reads and ignored writes -/

/-- CTRL and VSTAT read as R123 and R124 lay them out, and the read does nothing else. -/
def Obligations.ControlWords : Prop :=
  ∀ s : State,
    exec .rdCtrl s = .next (afterRead 0x00
      (BitVec.ofNat 16 (s.ctrl.enable.toNat + 2 * s.ctrl.outEn.toNat + 4 * s.ctrl.syncMode.toNat +
        8 * s.ctrl.profSel.toNat)) s) ∧
    exec .rdVstat s = .next (afterRead 0x01
      (BitVec.ofNat 16 (s.vstat.srcExt.toNat + (match s.vstat.std with | .pal => 0 | .ntsc => 2) +
        4 * s.vstat.actIn.toNat + 16 * s.vstat.vref0.toNat + 256 * s.vstat.vref1.toNat)) s)

/-- The read-only counters, status words and debug registers: each returns its value, and a write of any value changes
nothing (R504, R505, R506, R507, R515, R517, R518, R133). -/
def Obligations.StatusRegisters : Prop :=
  ∀ (s : State) (v : Word),
    exec .rdLine s = .next (afterRead 0x04 s.cnt.line s) ∧
    exec .rdLastCount s = .next (afterRead 0x05 s.cnt.lastCount s) ∧
    exec .rdField s = .next (afterRead 0x06
      (BitVec.ofNat 16 (s.cnt.parity.toNat + 2 * s.cnt.vlock.toNat +
        4 * (match s.loe.zone with | .preroll => 0 | .setup => 1 | .modeswitch => 2 | .active => 3 | .teardown => 4) +
        32 * s.loe.busy.toNat)) s) ∧
    exec .rdElapsed s = .next (afterRead 0x07 s.cnt.elapsed s) ∧
    exec .rdFmStat s = .next (afterRead 0x0E
      (BitVec.ofNat 16 (s.arb.xfer.toNat + 2 * s.loe.busy.toNat + 4 * s.arb.ready.toNat +
        8 * (if s.arb.mode = .dual then 1 else 0) +
        16 * (match s.arb.err with
          | .ok => 0 | .busy => 1 | .xfer => 2 | .len => 3 | .badcmd => 4 | .range => 5 | .notready => 6))) s) ∧
    exec (.wrLine v) s = .next s ∧ exec (.wrLastCount v) s = .next s ∧ exec (.wrField v) s = .next s ∧
    exec (.wrElapsed v) s = .next s ∧ exec (.wrFmStat v) s = .next s ∧
    exec .rdDbgSr s = .next (afterRead 0x14 s.det.sr s) ∧
    exec .rdDbgSrcnt s = .next (afterRead 0x15 (BitVec.ofNat 16 s.det.srCnt.toNat) s) ∧
    exec .rdDbgLastline s = .next (afterRead 0x16 s.loe.lastLine s) ∧
    exec .rdDbgAddrLo s = .next (afterRead 0x17 (BitVec.ofNat 16 s.loe.addr.toNat) s) ∧
    exec .rdDbgAddrHi s = .next (afterRead 0x18 (BitVec.ofNat 16 (s.loe.addr.toNat / 2 ^ 16)) s) ∧
    exec (.wrDbgSr v) s = .next s ∧ exec (.wrDbgSrcnt v) s = .next s ∧ exec (.wrDbgLastline v) s = .next s ∧
    exec (.wrDbgAddrLo v) s = .next s ∧ exec (.wrDbgAddrHi v) s = .next s

/-- The output resolution of the selected profile and the standard, truncated to 16 bits; writes are ignored
(R314, R519). -/
def Obligations.OutputResolution : Prop :=
  ∀ (s : State) (v : Word) (p : Profile), p = (if s.ctrl.profSel then s.prof1 else s.prof0) →
    exec .rdOutResW s = .next (afterRead 0x12
      (match s.cfg.xsizes[p.hsizeSel.toNat]? with
        | some e => BitVec.ofNat 16 e.1
        | none => 0) s) ∧
    exec .rdOutResH s = .next (afterRead 0x13
      (BitVec.ofNat 16 (((match s.vstat.std with | .pal => s.cfg.lines.pal | .ntsc => s.cfg.lines.ntsc) -
        p.top.toNat - p.bot.toNat) * (p.scan.toNat + 1))) s) ∧
    exec (.wrOutResW v) s = .next s ∧ exec (.wrOutResH v) s = .next s

/-- FM_RDATA: with XFER = 0 a read returns BUF[BUFPTR] (a draw where the host never wrote) and advances BUFPTR; with
XFER = 1 it returns 0 and leaves BUFPTR; writes are ignored; no other host read has a side effect (R514). The draw
counter is the model's own (log entry 3). -/
def Obligations.BufferReadPort : Prop :=
  ∀ s : State,
    (s.arb.xfer = false → exec .rdFmRdata s = .next
      { afterRead 0x11
          (match memRead s.arb.buf s.arb.bufPtr.toNat with
            | some b => b.setWidth 16
            | none => (Config.drawByte s.sched.draws 0).setWidth 16) s with
        arb := { s.arb with bufPtr := BitVec.ofNat 8 ((s.arb.bufPtr.toNat + 1) % s.cfg.bufDepth) },
        sched := { s.sched with draws := s.sched.draws + 1 } }) ∧
    (s.arb.xfer = true → exec .rdFmRdata s = .next (afterRead 0x11 0 s)) ∧
    (∀ v : Word, exec (.wrFmRdata v) s = .next s) ∧
    (∀ a : RegAddr, a ≠ 0x11 → ∃ v : Word, exec (.evHostRd a) s = .next (afterRead a v s))

/-- Reserved addresses read 0 and ignore writes, with no side effect and no interrupt (R520). -/
def Obligations.ReservedAddresses : Prop :=
  ∀ (s : State) (v : Word) (x : BitVec 1) (y : BitVec 2) (z : BitVec 4) (p : BitVec 6) (q : BitVec 7),
    exec (.reserved19 false v) s = .next (afterRead 0x19 0 s) ∧ exec (.reserved19 true v) s = .next s ∧
    exec (.reserved1A false x v) s = .next (afterRead (0x1A + x.setWidth 8) 0 s) ∧
    exec (.reserved1A true x v) s = .next s ∧
    exec (.reserved1C false y v) s = .next (afterRead (0x1C + y.setWidth 8) 0 s) ∧
    exec (.reserved1C true y v) s = .next s ∧
    exec (.reserved25 false v) s = .next (afterRead 0x25 0 s) ∧ exec (.reserved25 true v) s = .next s ∧
    exec (.reserved26 false x v) s = .next (afterRead (0x26 + x.setWidth 8) 0 s) ∧
    exec (.reserved26 true x v) s = .next s ∧
    exec (.reserved2D false v) s = .next (afterRead 0x2D 0 s) ∧ exec (.reserved2D true v) s = .next s ∧
    exec (.reserved2E false x v) s = .next (afterRead (0x2E + x.setWidth 8) 0 s) ∧
    exec (.reserved2E true x v) s = .next s ∧
    exec (.reserved30 false z v) s = .next (afterRead (0x30 + z.setWidth 8) 0 s) ∧
    exec (.reserved30 true z v) s = .next s ∧
    exec (.reserved40 false p v) s = .next (afterRead (0x40 + p.setWidth 8) 0 s) ∧
    exec (.reserved40 true p v) s = .next s ∧
    exec (.reserved80 false q v) s = .next (afterRead (0x80 + q.setWidth 8) 0 s) ∧
    exec (.reserved80 true q v) s = .next s

/-! ### Host register writes -/

/-- CTRL writes that do not lower EN: the four fields are written (SYNC_MODE only with P_HW_HAS_EXT_SYNC); a changed
SYNC_MODE clears the decoder, the filter and the lock; EN 0→1 loads REF_NEXT, and while sync is internal it restarts the
generator on the odd field's start line, with an internal vertical sync, a line event and the line's pulses: `sync_out` is
low exactly in R213's two windows (R500, R218). Read from the spec by inference: what the restart does is all of R211 but
SRC_CHG (log entry 21); the start line is P_GEN_TABLE's own, a line that no row names has no pulse, and earlier pulses are
cut (log entry 22). -/
def Obligations.ControlWrite : Prop :=
  ∀ (s u : State) (v : Word) (m : Bool), m = (if s.cfg.hasExtSync then v.getLsbD 2 else s.ctrl.syncMode) →
    u = { s with
      ctrl := { enable := v.getLsbD 0, outEn := v.getLsbD 1, syncMode := m, profSel := v.getLsbD 3 },
      det := if m = s.ctrl.syncMode then s.det
        else { s.det with sr := 0, srCnt := 0, capValid := false, csValid := false },
      cnt := if m = s.ctrl.syncMode then s.cnt else { s.cnt with vlock := false } } →
    (v.getLsbD 0 = s.ctrl.enable → exec (.wrCtrl v) s = .next u) ∧
    (s.ctrl.enable = false → v.getLsbD 0 = true → s.vstat.srcExt = true →
      exec (.wrCtrl v) s = .next { u with gen := { u.gen with
        refNext := (s.sched.clock % 2 ^ s.cfg.tsW + s.cfg.refPeriod) % 2 ^ s.cfg.tsW } }) ∧
    (s.ctrl.enable = false → v.getLsbD 0 = true → s.vstat.srcExt = false →
      ∃ x y t : State,
        exec (.vsyncEvent .internal true)
          { u with
            cnt := { u.cnt with vlock := false },
            gen := { refNext := (s.sched.clock % 2 ^ s.cfg.tsW + s.cfg.refPeriod) % 2 ^ s.cfg.tsW,
                     running := true, std := s.vstat.std,
                     line := BitVec.ofNat 10 (s.cfg.genTable s.vstat.std).field1,
                     next := (s.sched.clock % 2 ^ s.cfg.tsW + s.cfg.genLineClks.value s.vstat.std) % 2 ^ s.cfg.tsW },
            ports := { u.ports with syncOe := true } } = .next x ∧
        exec .lineEvent x = .next y ∧
        exec (.wrCtrl v) s = .next t ∧ t = { y with trace := { y.trace with pulses := t.trace.pulses } } ∧
        LinePulses t)

/-- EN 1→0: what a SYNC_MODE change clears is cleared, the generator stops, `sync_oe` is 0 and `sync_out` is 1; a zone that
holds the bus is torn down, whatever OUT_EN is: a running row is cut, and a device in dual mode goes back by RSTIO_D, the
toggles and EQIO_S (R500, R218, R306, R412). The count of streamed pixels is log entry 23 (DEDUCED), `fm_cs_n` between
the frames is log entry 18's, and frames that are still on the wires give way to the new ones (log entry 28). -/
def Obligations.ControlDisable : Prop :=
  ∀ (s : State) (v : Word), s.ctrl.enable = true → v.getLsbD 0 = false →
    ∃ a t : State,
      (if holdsBus s.loe.zone then Aborted s a else a = s) ∧
      exec (.wrCtrl v) s = .next t ∧
      t = { a with
        ctrl := { enable := false, outEn := v.getLsbD 1,
                  syncMode := if s.cfg.hasExtSync then v.getLsbD 2 else s.ctrl.syncMode, profSel := v.getLsbD 3 },
        det := { s.det with sr := 0, srCnt := 0, capValid := false, csValid := false },
        cnt := { s.cnt with vlock := false },
        gen := { s.gen with running := false },
        ports := { a.ports with syncOe := false },
        trace := { a.trace with pulses := t.trace.pulses } } ∧
      ∀ n : Nat, syncOutAfter n t = true

/-- VSTAT_SET and VSTAT_CLR set and clear the host bits of the mask 0x0FF4 and no other; a write of VSTAT replaces them;
reads of the first two give 0. Each row is given as the value VSTAT reads afterwards (R501, R502, R503). -/
def Obligations.VideoStatusWrites : Prop :=
  ∀ (s : State) (v w : Word),
    w = BitVec.ofNat 16 (s.vstat.srcExt.toNat + (match s.vstat.std with | .pal => 0 | .ntsc => 2) +
      4 * s.vstat.actIn.toNat + 16 * s.vstat.vref0.toNat + 256 * s.vstat.vref1.toNat) →
    (∃ t : State, exec (.wrVstat v) s = .next t ∧ t = { s with vstat := t.vstat } ∧
      exec .rdVstat t = .next (afterRead 0x01 ((w &&& ~~~0x0FF4) ||| (v &&& 0x0FF4)) t) ∧
      pinVinSel t = v.getLsbD 2 ∧ pinVref0 t = v.extractLsb' 4 4 ∧ pinVref1 t = v.extractLsb' 8 4) ∧
    (∃ t : State, exec (.wrVstatSet v) s = .next t ∧ t = { s with vstat := t.vstat } ∧
      exec .rdVstat t = .next (afterRead 0x01 (w ||| (v &&& 0x0FF4)) t)) ∧
    (∃ t : State, exec (.wrVstatClr v) s = .next t ∧ t = { s with vstat := t.vstat } ∧
      exec .rdVstat t = .next (afterRead 0x01 (w &&& ~~~(v &&& 0x0FF4)) t)) ∧
    exec .rdVstatSet s = .next (afterRead 0x02 0 s) ∧ exec .rdVstatClr s = .next (afterRead 0x03 0 s)

/-- INT_PEND and INT_EN: reads show the ten bits; a write of INT_PEND clears exactly the written bits, but not one raised in
the same cycle; INT_EN is written whole; `irq` is the OR of the enabled pending bits (R508, R509). -/
def Obligations.InterruptRegisters : Prop :=
  ∀ (s : State) (v : Word),
    exec .rdIntPend s = .next (afterRead 0x08 (BitVec.ofNat 16 s.irq.pend.toNat) s) ∧
    exec .rdIntEn s = .next (afterRead 0x09 (BitVec.ofNat 16 s.irq.en.toNat) s) ∧
    (∃ t : State, exec (.wrIntPend v) s = .next t ∧ t = { s with irq := { s.irq with pend := t.irq.pend } } ∧
      ∀ n < 10, t.irq.pend.getLsbD n =
        (s.irq.pend.getLsbD n && (!v.getLsbD n || (decide (s.irq.raisedAt = s.sched.clock) && s.irq.raised.getLsbD n)))) ∧
    exec (.wrIntEn v) s = .next { s with irq := { s.irq with en := BitVec.ofNat 10 v.toNat } } ∧
    (pinIrq s = true ↔ ∃ n < 10, s.irq.pend.getLsbD n = true ∧ s.irq.en.getLsbD n = true)

/-- A pending bit stays 1 until the host writes 1 to it in INT_PEND, or a reset (R603). -/
def Obligations.PendingStays : Prop :=
  ∀ (i : Instr) (s t : State) (n : Nat), exec i s = .next t → s.irq.pend.getLsbD n = true →
    t.irq.pend.getLsbD n = true ∨ i = .evReset ∨
      ∃ v : Word, (i = .wrIntPend v ∨ i = .evHostWr 0x08 v) ∧ v.getLsbD n = true

/-- The transaction parameters: reads show them; writes store their fields while XFER = 0 and are ignored while XFER = 1
(R510, R511, R516, R404). -/
def Obligations.TransferParameters : Prop :=
  ∀ (s : State) (v : Word),
    exec .rdFmAddrLo s = .next (afterRead 0x0A (BitVec.ofNat 16 s.arb.fmAddr.toNat) s) ∧
    exec .rdFmAddrHi s = .next (afterRead 0x0B (BitVec.ofNat 16 (s.arb.fmAddr.toNat / 2 ^ 16)) s) ∧
    exec .rdFmLen s = .next (afterRead 0x0C (BitVec.ofNat 16 s.arb.fmLen.toNat) s) ∧
    exec .rdFmBufptr s = .next (afterRead 0x10 (BitVec.ofNat 16 s.arb.bufPtr.toNat) s) ∧
    (s.arb.xfer = false →
      exec (.wrFmAddrLo v) s = .next { s with arb := { s.arb with
        fmAddr := BitVec.ofNat 24 (s.arb.fmAddr.toNat / 2 ^ 16 * 2 ^ 16 + v.toNat) } } ∧
      exec (.wrFmAddrHi v) s = .next { s with arb := { s.arb with
        fmAddr := BitVec.ofNat 24 (v.toNat % 2 ^ 8 * 2 ^ 16 + s.arb.fmAddr.toNat % 2 ^ 16) } } ∧
      exec (.wrFmLen v) s = .next { s with arb := { s.arb with fmLen := BitVec.ofNat 9 v.toNat } } ∧
      exec (.wrFmBufptr v) s = .next { s with arb := { s.arb with
        bufPtr := BitVec.ofNat 8 (v.toNat % 2 ^ 8 % s.cfg.bufDepth) } }) ∧
    (s.arb.xfer = true →
      exec (.wrFmAddrLo v) s = .next s ∧ exec (.wrFmAddrHi v) s = .next s ∧ exec (.wrFmLen v) s = .next s ∧
      exec (.wrFmBufptr v) s = .next s)

/-- FM_WDATA: with XFER = 0 the byte goes to BUF[BUFPTR], every other buffer byte stays, and BUFPTR advances modulo
P_BUF_DEPTH; with XFER = 1 the write is ignored; a read gives 0 (R513). -/
def Obligations.BufferWritePort : Prop :=
  ∀ (s : State) (v : Word),
    (s.arb.xfer = false → ∃ t : State, exec (.wrFmWdata v) s = .next t ∧
      t = { s with arb := { s.arb with
        buf := t.arb.buf, bufPtr := BitVec.ofNat 8 ((s.arb.bufPtr.toNat + 1) % s.cfg.bufDepth) } } ∧
      memRead t.arb.buf s.arb.bufPtr.toNat = some (BitVec.ofNat 8 v.toNat) ∧
      ∀ a : Nat, a ≠ s.arb.bufPtr.toNat → memRead t.arb.buf a = memRead s.arb.buf a) ∧
    (s.arb.xfer = true → exec (.wrFmWdata v) s = .next s) ∧
    exec .rdFmWdata s = .next (afterRead 0x0F 0 s)

/-- The profile registers: each read shows its field in the low bits, and each write replaces that field of that profile
alone, at any time (R521 to R525, R527, R134). -/
def Obligations.ProfileRegisters : Prop :=
  ∀ (s : State) (v : Word),
    exec .rdP0Hsize s = .next (afterRead 0x20 (BitVec.ofNat 16 s.prof0.hsizeSel.toNat) s) ∧
    exec .rdP0Top s = .next (afterRead 0x21 (BitVec.ofNat 16 s.prof0.top.toNat) s) ∧
    exec .rdP0Bot s = .next (afterRead 0x22 (BitVec.ofNat 16 s.prof0.bot.toNat) s) ∧
    exec .rdP0Hoff s = .next (afterRead 0x23 s.prof0.hoff s) ∧
    exec .rdP0Scan s = .next (afterRead 0x24 (BitVec.ofNat 16 s.prof0.scan.toNat) s) ∧
    exec .rdP1Hsize s = .next (afterRead 0x28 (BitVec.ofNat 16 s.prof1.hsizeSel.toNat) s) ∧
    exec .rdP1Top s = .next (afterRead 0x29 (BitVec.ofNat 16 s.prof1.top.toNat) s) ∧
    exec .rdP1Bot s = .next (afterRead 0x2A (BitVec.ofNat 16 s.prof1.bot.toNat) s) ∧
    exec .rdP1Hoff s = .next (afterRead 0x2B s.prof1.hoff s) ∧
    exec .rdP1Scan s = .next (afterRead 0x2C (BitVec.ofNat 16 s.prof1.scan.toNat) s) ∧
    exec (.wrP0Hsize v) s = .next { s with prof0 := { s.prof0 with hsizeSel := BitVec.ofNat 3 v.toNat } } ∧
    exec (.wrP0Top v) s = .next { s with prof0 := { s.prof0 with top := BitVec.ofNat 10 v.toNat } } ∧
    exec (.wrP0Bot v) s = .next { s with prof0 := { s.prof0 with bot := BitVec.ofNat 10 v.toNat } } ∧
    exec (.wrP0Hoff v) s = .next { s with prof0 := { s.prof0 with hoff := v } } ∧
    exec (.wrP0Scan v) s = .next { s with prof0 := { s.prof0 with scan := decide (v.toNat % 2 = 1) } } ∧
    exec (.wrP1Hsize v) s = .next { s with prof1 := { s.prof1 with hsizeSel := BitVec.ofNat 3 v.toNat } } ∧
    exec (.wrP1Top v) s = .next { s with prof1 := { s.prof1 with top := BitVec.ofNat 10 v.toNat } } ∧
    exec (.wrP1Bot v) s = .next { s with prof1 := { s.prof1 with bot := BitVec.ofNat 10 v.toNat } } ∧
    exec (.wrP1Hoff v) s = .next { s with prof1 := { s.prof1 with hoff := v } } ∧
    exec (.wrP1Scan v) s = .next { s with prof1 := { s.prof1 with scan := decide (v.toNat % 2 = 1) } }

/-- A bus access event does what the access word of the same address does: EV_HOST_WR the write, EV_HOST_RD the read
whatever the unused data bits are; both always complete (R120, R139, R526). -/
def Obligations.HostEventsAreAccesses : Prop :=
  ∀ (s : State) (a : RegAddr) (v : Word),
    exec (.evHostWr a v) s = exec (decodeHost (BitVec.ofBool true ++ a ++ v)) s ∧
    exec (.evHostRd a) s = exec (decodeHost (BitVec.ofBool false ++ a ++ v)) s ∧
    (∃ t : State, exec (.evHostWr a v) s = .next t) ∧ ∃ t : State, exec (.evHostRd a) s = .next t

/-! ### Frame-memory commands -/

/-- A write of FM_CMD is the command in its bits 3..0, the other bits ignored, and always completes; a read gives 0
(R512, R129). -/
def Obligations.CommandWrite : Prop :=
  ∀ (s : State) (v : Word),
    exec (.wrFmCmd v) s = exec (decodeFmCmd (BitVec.ofNat 4 v.toNat)) s ∧
    (∃ t : State, exec (.wrFmCmd v) s = .next t) ∧ exec .rdFmCmd s = .next (afterRead 0x0D 0 s)

/-- FM_NOP writes ERR <- OK in every state, and nothing else (R405); the reserved opcodes are refused with BADCMD and CMD_ERR
(bit 8) in every state, and nothing else changes (R409). -/
def Obligations.CommandNopAndReserved : Prop :=
  ∀ (s : State) (x : BitVec 2) (y : BitVec 3),
    exec .fmNop s = .next { s with arb := { s.arb with err := .ok } } ∧
    exec (.fmReserved4 x) s = .next { s with arb := { s.arb with err := .badcmd }, irq := irqAfter 0x100 s } ∧
    exec (.fmReserved8 y) s = .next { s with arb := { s.arb with err := .badcmd }, irq := irqAfter 0x100 s }

/-- The refusals of INIT, WRITE and READ, in R403's order: the code goes to ERR, CMD_ERR (bit 8) is pending, and nothing
else changes (R403, R601). -/
def Obligations.CommandRefusals : Prop :=
  ∀ s : State,
    (s.arb.xfer = true → ∀ i, i = .fmInit ∨ i = .fmWrite ∨ i = .fmRead →
      exec i s = .next { s with arb := { s.arb with err := .xfer }, irq := irqAfter 0x100 s }) ∧
    (s.arb.xfer = false → s.loe.busy = true → ∀ i, i = .fmInit ∨ i = .fmWrite ∨ i = .fmRead →
      exec i s = .next { s with arb := { s.arb with err := .busy }, irq := irqAfter 0x100 s }) ∧
    (s.arb.xfer = false → s.loe.busy = false → s.arb.ready = false → ∀ i, i = .fmWrite ∨ i = .fmRead →
      exec i s = .next { s with arb := { s.arb with err := .notready }, irq := irqAfter 0x100 s }) ∧
    (s.arb.xfer = false → s.loe.busy = false → s.arb.ready = true →
      (s.arb.fmLen = 0 ∨ s.cfg.bufDepth < s.arb.fmLen.toNat) → ∀ i, i = .fmWrite ∨ i = .fmRead →
      exec i s = .next { s with arb := { s.arb with err := .len }, irq := irqAfter 0x100 s }) ∧
    (s.arb.xfer = false → s.loe.busy = false → s.arb.ready = true →
      s.arb.fmLen ≠ 0 → s.arb.fmLen.toNat ≤ s.cfg.bufDepth →
      s.cfg.fmBytes < s.arb.fmAddr.toNat + s.arb.fmLen.toNat → ∀ i, i = .fmWrite ∨ i = .fmRead →
      exec i s = .next { s with arb := { s.arb with err := .range }, irq := irqAfter 0x100 s })

/-- An accepted INIT: ERR is OK, XFER is 1, RSTIO_ANY and EQIO_S go out, 8 clocks each, and the completion is due after
16·P_FM_SCK_DIV cycles; memories and buffer are untouched (R401, R402, R403, R406). Model's choices: EQIO_S starts right after
RSTIO_ANY's 8 clocks, the `fm_cs_n = 1` between the two (R414 counts it in neither) being in the first cycles of EQIO_S's
first clock (log entry 18); INIT is accepted also while a mode switch's frames are on the wires (log entry 28); the draw counter moves on
(the model's own, log entry 3) and the device's mode at issue is kept (log entry 17). -/
def Obligations.InitIssue : Prop :=
  ∀ s : State, s.arb.xfer = false → s.loe.busy = false →
    exec .fmInit s = .next { s with
      arb := { s.arb with err := .ok, xfer := true, kind := .init },
      sched := { s.sched with xferDue := s.sched.clock + 16 * s.cfg.fmSckDiv, xferDraw := s.sched.draws,
                              xferMode := s.dev.mode, draws := s.sched.draws + 1 },
      trace := { s.trace with frames :=
        { frame := .eqioS, start := s.sched.clock + 8 * s.cfg.fmSckDiv,
          stop := s.sched.clock + 8 * s.cfg.fmSckDiv + 8 * s.cfg.fmSckDiv, div := s.cfg.fmSckDiv,
          resume := s.sched.clock + 8 * s.cfg.fmSckDiv } ::
        { frame := .rstioAny, start := s.sched.clock, stop := s.sched.clock + 8 * s.cfg.fmSckDiv,
          div := s.cfg.fmSckDiv, resume := s.sched.clock } :: s.trace.frames } }

/-- An accepted WRITE or READ: ERR is OK, XFER is 1, and one QWRITE frame of the first FM_LEN buffer bytes (a draw where
the host never wrote) or one QREAD frame goes out; the completion is due after 8 + 2n, or 8 + P_DUMMY_QUAD_CLKS + 2n,
clocks (R401, R403, R407, R408, R414). The draw taken at issue and the draw counter are the model's own (log entry 3); the
device's mode at the frame's start is kept for the completion (R413; log entry 17). -/
def Obligations.TransferIssue : Prop :=
  ∀ (s : State) (n : Nat), n = s.arb.fmLen.toNat →
    s.arb.xfer = false → s.loe.busy = false → s.arb.ready = true → 1 ≤ n → n ≤ s.cfg.bufDepth →
    s.arb.fmAddr.toNat + n ≤ s.cfg.fmBytes →
    exec .fmWrite s = .next { s with
      arb := { s.arb with err := .ok, xfer := true, kind := .write },
      sched := { s.sched with xferDue := s.sched.clock + (8 + 2 * n) * s.cfg.fmSckDiv, xferDraw := s.sched.draws,
                              xferMode := s.dev.mode, draws := s.sched.draws + 1 },
      trace := { s.trace with frames :=
        { frame := .qwrite s.arb.fmAddr ((List.range n).map (fun i =>
            match memRead s.arb.buf i with
            | some b => b
            | none => Config.drawByte s.sched.draws i)),
          start := s.sched.clock, stop := s.sched.clock + (8 + 2 * n) * s.cfg.fmSckDiv,
          div := s.cfg.fmSckDiv, resume := s.sched.clock } :: s.trace.frames } } ∧
    exec .fmRead s = .next { s with
      arb := { s.arb with err := .ok, xfer := true, kind := .read },
      sched := { s.sched with xferDue := s.sched.clock + (8 + s.cfg.dummyQuad + 2 * n) * s.cfg.fmSckDiv,
                              xferDraw := s.sched.draws, xferMode := s.dev.mode, draws := s.sched.draws + 1 },
      trace := { s.trace with frames :=
        { frame := .qread s.arb.fmAddr n, start := s.sched.clock,
          stop := s.sched.clock + (8 + s.cfg.dummyQuad + 2 * n) * s.cfg.fmSckDiv,
          div := s.cfg.fmSckDiv, resume := s.sched.clock } :: s.trace.frames } }

/-- A command is accepted only in a state that R403's checks pass: whenever XFER goes 0→1 the bus was free and, for WRITE
and READ, the device was ready and the range lay inside the buffer and the memory (R403, R93). -/
def Obligations.AcceptanceIsChecked : Prop :=
  ∀ (i : Instr) (s t : State), exec i s = .next t → s.arb.xfer = false → t.arb.xfer = true →
    s.loe.busy = false ∧ t.arb.err = .ok ∧
    (t.arb.kind ≠ .init → s.arb.ready = true ∧ 1 ≤ t.arb.fmLen.toNat ∧ t.arb.fmLen.toNat ≤ t.cfg.bufDepth ∧
      t.arb.fmAddr.toNat + t.arb.fmLen.toNat ≤ t.cfg.fmBytes)

/-- INIT's completion: the device ends in quad mode whatever mode it was in, FM_READY is 1, XFER is 0, CMD_DONE (bit 7) is
pending, ERR stays, and the wires are idle (R402, R406, R410). With XFER = 0 nothing completes (model's choice, log
entry 8). -/
def Obligations.InitCompletes : Prop :=
  (∀ s : State, s.arb.xfer = true → s.arb.kind = .init →
    ∃ t : State, exec .evXferDone s = .next t ∧
      t = { s with
        arb := { s.arb with mode := .quad, ready := true, xfer := false },
        dev := { s.dev with mode := .quad },
        irq := irqAfter 0x080 s,
        trace := { s.trace with frames := t.trace.frames } } ∧
      pinFmCsN t = true ∧ pinFmSioOe t = 0) ∧
  (∀ s : State, s.arb.xfer = false → exec .evXferDone s = .next s)

/-- WRITE's completion when its frame started with the device in quad mode: the bytes at FM_ADDR to FM_ADDR + FM_LEN − 1 are
BUF's (a draw where the host never wrote), every other byte of the memory stays, BUFPTR and XFER are 0, CMD_DONE (bit 7) is
pending (R407, R410, R413). Model's choices: the draw is the one taken at issue (log entry 3), and the frame acts on the
memory at the completion step, by the mode the device was in at issue (log entry 17). -/
def Obligations.WriteCompletes : Prop :=
  ∀ s : State, s.arb.xfer = true → s.arb.kind = .write → s.sched.xferMode = .quad →
    s.arb.fmLen.toNat ≤ s.cfg.bufDepth → s.arb.fmAddr.toNat + s.arb.fmLen.toNat ≤ s.cfg.fmBytes →
    ∃ t : State, exec .evXferDone s = .next t ∧
      t = { s with
        arb := { s.arb with bufPtr := 0, xfer := false },
        dev := { s.dev with mem := t.dev.mem },
        irq := irqAfter 0x080 s,
        trace := { s.trace with frames := t.trace.frames } } ∧
      (∀ i < s.arb.fmLen.toNat, memRead t.dev.mem (s.arb.fmAddr.toNat + i) =
        some (match memRead s.arb.buf i with
          | some b => b
          | none => Config.drawByte s.sched.xferDraw i)) ∧
      (∀ a : Nat, a < s.arb.fmAddr.toNat ∨ s.arb.fmAddr.toNat + s.arb.fmLen.toNat ≤ a →
        memRead t.dev.mem a = memRead s.dev.mem a) ∧
      pinFmCsN t = true ∧ pinFmSioOe t = 0

/-- READ's completion when its frame started with the device in quad mode: BUF[i] for i < FM_LEN is the byte that came in,
which is the memory's (a draw where nothing was written) while the device drives `fm_sio_i`; the rest of BUF and the whole
memory stay, BUFPTR and XFER are 0, CMD_DONE (bit 7) is pending (R408, R410). When the frame started in another mode (a
device that something outside the block has disturbed), a READ or WRITE still completes on the block's side, DEV_MODE and
every byte of the memory become draws (R413), a READ still fills BUF[0..FM_LEN−1] and leaves the rest of BUF alone, and a
WRITE leaves BUF alone. Model's choices: the draws and the draw counter (log entry 3), `out` and the source of `fm_sio_i`
(log entry 6), and the step and the mode in which the frame acts (log entry 17). -/
def Obligations.ReadCompletes : Prop :=
  (∀ s : State, s.arb.xfer = true → s.arb.kind = .read → s.sched.xferMode = .quad →
    s.arb.fmLen.toNat ≤ s.cfg.bufDepth → s.arb.fmAddr.toNat + s.arb.fmLen.toNat ≤ s.cfg.fmBytes →
    ∃ t : State, exec .evXferDone s = .next t ∧
      t = { s with
        arb := { s.arb with buf := t.arb.buf, bufPtr := 0, xfer := false },
        dev := { s.dev with out := t.dev.out },
        irq := irqAfter 0x080 s,
        trace := { s.trace with frames := t.trace.frames } } ∧
      (s.dev.sio = .device → ∀ i < s.arb.fmLen.toNat, memRead t.arb.buf i =
        some (match memRead s.dev.mem (s.arb.fmAddr.toNat + i) with
          | some b => b
          | none => Config.drawByte s.sched.xferDraw i)) ∧
      (∀ i < s.arb.fmLen.toNat, memRead t.arb.buf i =
        (bytesIn s .quad .quad s.sched.xferDraw s.arb.fmAddr.toNat s.arb.fmLen.toNat)[i]?) ∧
      (∀ a : Nat, s.arb.fmLen.toNat ≤ a → memRead t.arb.buf a = memRead s.arb.buf a) ∧
      pinFmCsN t = true ∧ pinFmSioOe t = 0) ∧
  (∀ s : State, s.arb.xfer = true → s.arb.kind ≠ .init → s.sched.xferMode ≠ .quad →
    s.arb.fmLen.toNat ≤ s.cfg.bufDepth →
    ∃ t : State, exec .evXferDone s = .next t ∧
      t = { s with
        arb := { s.arb with buf := t.arb.buf, bufPtr := 0, xfer := false },
        dev := { s.dev with mem := t.dev.mem, mode := Config.drawMode s.sched.draws, out := t.dev.out },
        irq := irqAfter 0x080 s,
        sched := { s.sched with draws := s.sched.draws + 1 },
        trace := { s.trace with frames := t.trace.frames } } ∧
      (∀ a : Nat, memRead t.dev.mem a = none) ∧
      (s.arb.kind = .write → t.arb.buf = s.arb.buf) ∧
      (s.arb.kind = .read → ∀ a : Nat, memRead t.arb.buf a =
        if a < s.arb.fmLen.toNat then
          (bytesIn s s.sched.xferMode .quad s.sched.xferDraw s.arb.fmAddr.toNat s.arb.fmLen.toNat)[a]?
        else memRead s.arb.buf a) ∧
      pinFmCsN t = true ∧ pinFmSioOe t = 0)

/-! ### Frames on the wires -/

/-- The device on frames of its own mode (R413): QWRITE stores byte i at (A + i) mod P_FM_BYTES and nothing else (for a frame
longer than the memory only what stays untouched is said); QREAD and DREAD return those bytes (a draw where nothing was
written), unless something drives `fm_sio_i` in the device's place, and change no byte; RSTIO in any mode leaves SINGLE,
EDIO_S and EQIO_S enter DUAL and QUAD. Model's choices: the numbered draw and the draw counter (log entry 3), the field `out`
and the source of `fm_sio_i` (log entry 6), RSTIO sent in another mode, which R413's first bullet covers (log entry 16). -/
def Obligations.DeviceFrames : Prop :=
  ∀ (s : State) (a : FmAddr) (data : List Byte) (n : Nat),
    (s.dev.mode = .quad → ∃ t : State, exec (.qwrite a data) s = .next t ∧
      t = { s with dev := { s.dev with mem := t.dev.mem } } ∧
      (data.length ≤ s.cfg.fmBytes → ∀ (i : Nat) (h : i < data.length),
        memRead t.dev.mem ((a.toNat + i) % s.cfg.fmBytes) = some data[i]) ∧
      ∀ x : Nat, (∀ i < data.length, x ≠ (a.toNat + i) % s.cfg.fmBytes) → memRead t.dev.mem x = memRead s.dev.mem x) ∧
    (∀ i m, (i = Instr.qread a n ∧ m = DevMode.quad) ∨ (i = Instr.dread a n ∧ m = DevMode.dual) → s.dev.mode = m →
      exec i s = .next { s with
        dev := { s.dev with out := bytesIn s m m s.sched.draws a.toNat n },
        sched := { s.sched with draws := s.sched.draws + 1 } }) ∧
    exec .rstioQ s = .next { s with dev := { s.dev with mode := .single } } ∧
    exec .rstioD s = .next { s with dev := { s.dev with mode := .single } } ∧
    exec .rstioAny s = .next { s with dev := { s.dev with mode := .single } } ∧
    (s.dev.mode = .single →
      exec .edioS s = .next { s with dev := { s.dev with mode := .dual } } ∧
      exec .eqioS s = .next { s with dev := { s.dev with mode := .quad } })

/-- A QWRITE, QREAD, DREAD, EDIO_S or EQIO_S sent in a mode other than the device's: every byte of the memory and the
device's mode become draws, and nothing of the block changes (R413). Model's choices: the mode is the draw of number k and
the draw counter moves on past it (log entry 3); a byte that is a draw is one that is not listed (log entry 4). -/
def Obligations.WrongModeFrames : Prop :=
  ∀ (s : State) (a : FmAddr) (data : List Byte) (n : Nat) (i : Instr),
    (i = .qwrite a data ∧ s.dev.mode ≠ .quad) ∨ (i = .qread a n ∧ s.dev.mode ≠ .quad) ∨
    (i = .dread a n ∧ s.dev.mode ≠ .dual) ∨ ((i = .edioS ∨ i = .eqioS) ∧ s.dev.mode ≠ .single) →
    ∃ (t : State) (k : Nat), exec i s = .next t ∧ s.sched.draws ≤ k ∧
      t = { s with
        dev := { s.dev with mem := t.dev.mem, mode := Config.drawMode k, out := t.dev.out },
        sched := { s.sched with draws := k + 1 } } ∧
      ∀ x : Nat, memRead t.dev.mem x = none

/-! ### Sync events -/

/-- While EN = 0 the sync and timer events change no state at all; host accesses still complete (R200). -/
def Obligations.EnableGate : Prop :=
  ∀ s : State,
    (s.ctrl.enable = false → ∀ i,
      i = .evCsync ∨ i = .evVsync ∨ i = .evCmp ∨ i = .evRefTick ∨ i = .evGenLine → exec i s = .next s) ∧
    (∀ (a : RegAddr) (v : Word),
      (∃ t : State, exec (.evHostWr a v) s = .next t) ∧ ∃ t : State, exec (.evHostRd a) s = .next t)

/-- EV_CSYNC (R202): gated by EN and SYNC_MODE; an edge closer than P_EXT_MIN_DELTA to the last accepted one is discarded;
an accepted one is a line event while sync is external, and only a reference for the filter while it is internal. -/
def Obligations.CsyncEdge : Prop :=
  ∀ (s u : State) (now : Nat), now = s.sched.clock % 2 ^ s.cfg.tsW →
    u = { s with det := { s.det with csLast := now, csValid := true } } →
    (s.ctrl.enable = false ∨ s.ctrl.syncMode = true → exec .evCsync s = .next s) ∧
    (s.ctrl.enable = true → s.ctrl.syncMode = false → s.det.csValid = true →
      (now + 2 ^ s.cfg.tsW - s.det.csLast % 2 ^ s.cfg.tsW) % 2 ^ s.cfg.tsW < s.cfg.extMinDelta →
      exec .evCsync s = .next s) ∧
    (s.ctrl.enable = true → s.ctrl.syncMode = false →
      (s.det.csValid = true → s.cfg.extMinDelta ≤ (now + 2 ^ s.cfg.tsW - s.det.csLast % 2 ^ s.cfg.tsW) % 2 ^ s.cfg.tsW) →
      (s.vstat.srcExt = true → exec .evCsync s = exec .lineEvent u ∧ ∃ t : State, exec .evCsync s = .next t) ∧
      (s.vstat.srcExt = false → exec .evCsync s = .next u))

/-- EV_VSYNC (R203): gated by EN and SYNC_MODE; otherwise a genuine vertical sync event whose standard is PAL when the field
that ends has at least P_STD_LINE_THRESHOLD lines, and NTSC when it has fewer. -/
def Obligations.VsyncEdge : Prop :=
  ∀ s : State,
    (s.ctrl.enable = false ∨ s.ctrl.syncMode = true → exec .evVsync s = .next s) ∧
    (s.ctrl.enable = true → s.ctrl.syncMode = false →
      exec .evVsync s = exec (.vsyncEvent .genuine (decide (s.cnt.line.toNat < s.cfg.stdLineThreshold))) s ∧
      ∃ t : State, exec .evVsync s = .next t)

/-- EV_CMP up to its acceptance (R205, R206, R207): gated by EN and SYNC_MODE; the first edge only sets the reference; an
edge inside the settle window or below the minimum delta changes nothing; every edge completes. -/
def Obligations.ComparatorEdgeFiltered : Prop :=
  ∀ (s : State) (now delta : Nat), now = s.sched.clock % 2 ^ s.cfg.tsW →
    delta = (now + 2 ^ s.cfg.tsW - s.det.capLast % 2 ^ s.cfg.tsW) % 2 ^ s.cfg.tsW →
    (s.ctrl.enable = false ∨ s.ctrl.syncMode = false → exec .evCmp s = .next s) ∧
    (s.ctrl.enable = true → s.ctrl.syncMode = true → s.det.capValid = false →
      exec .evCmp s = .next { s with det := { s.det with capLast := now, capValid := true } }) ∧
    (s.ctrl.enable = true → s.ctrl.syncMode = true → s.det.capValid = true →
      (delta < s.cfg.settle ∨ delta < s.cfg.minDelta) → exec .evCmp s = .next s) ∧
    ∃ t : State, exec .evCmp s = .next t

/-- EV_CMP once accepted (R205, R207, R208, R209, R141): the interval is classified into SR; with VLOCK = 1 an interval
within the tolerance is a line event, and any other drops the lock with LOCK_LOST (bit 1); without lock the full 16-bit
pattern test gives a genuine vertical sync event. -/
def Obligations.ComparatorEdgeAccepted : Prop :=
  ∀ (s u w : State) (now delta : Nat) (found : State → Host.Outcome State Fault Refusal),
    now = s.sched.clock % 2 ^ s.cfg.tsW →
    delta = (now + 2 ^ s.cfg.tsW - s.det.capLast % 2 ^ s.cfg.tsW) % 2 ^ s.cfg.tsW →
    s.ctrl.enable = true → s.ctrl.syncMode = true → s.det.capValid = true →
    s.cfg.settle ≤ delta → s.cfg.minDelta ≤ delta →
    u = { s with det := { s.det with
      capLast := now,
      sr := if s.cfg.shortMin ≤ delta ∧ delta ≤ s.cfg.shortMax then BitVec.ofNat 16 (2 * s.det.sr.toNat)
            else if s.cfg.longMin ≤ delta ∧ delta ≤ s.cfg.longMax then BitVec.ofNat 16 (2 * s.det.sr.toNat + 1)
            else 0,
      srCnt := if (s.cfg.shortMin ≤ delta ∧ delta ≤ s.cfg.shortMax) ∨ (s.cfg.longMin ≤ delta ∧ delta ≤ s.cfg.longMax)
               then BitVec.ofNat 5 (min (s.det.srCnt.toNat + 1) 16) else 0 } } →
    w = { u with
      cnt := { u.cnt with vlock := false }, irq := irqAfter 0x002 s,
      det := { u.det with sr := if s.cfg.clearSrOnLockLoss then 0 else u.det.sr,
                          srCnt := if s.cfg.clearSrOnLockLoss then 0 else u.det.srCnt } } →
    found = (fun x =>
      if x.det.srCnt = 16 ∧ x.det.sr = x.cfg.patPal then
        exec (.vsyncEvent .genuine false) { x with det := { x.det with srCnt := 0 } }
      else if x.det.srCnt = 16 ∧ x.det.sr = x.cfg.patNtsc then
        exec (.vsyncEvent .genuine true) { x with det := { x.det with srCnt := 0 } }
      else .next x) →
    (s.cnt.vlock = true → delta ≤ s.cfg.lineIvl + s.cfg.lineTol → s.cfg.lineIvl ≤ delta + s.cfg.lineTol →
      exec .evCmp s = exec .lineEvent u) ∧
    (s.cnt.vlock = true → (s.cfg.lineIvl + s.cfg.lineTol < delta ∨ delta + s.cfg.lineTol < s.cfg.lineIvl) →
      exec .evCmp s = found w) ∧
    (s.cnt.vlock = false → exec .evCmp s = found u)

/-- EV_REF_TICK (R210): gated by EN; REF_NEXT moves on, ELAPSED counts and saturates at 0xFFFF, and while sync is external
P_INT_TIMEOUT ticks without a genuine vertical sync switch to internal sync. -/
def Obligations.ReferenceTick : Prop :=
  ∀ s u : State,
    u = { s with
      gen := { s.gen with refNext := (s.sched.clock % 2 ^ s.cfg.tsW + s.cfg.refPeriod) % 2 ^ s.cfg.tsW },
      cnt := { s.cnt with elapsed := if s.cnt.elapsed = 0xFFFF then 0xFFFF else s.cnt.elapsed + 1 } } →
    (s.ctrl.enable = false → exec .evRefTick s = .next s) ∧
    (s.ctrl.enable = true → s.vstat.srcExt = true ∧ s.cfg.intTimeout ≤ u.cnt.elapsed.toNat →
      exec .evRefTick s = exec .timeoutSwitch u ∧ ∃ t : State, exec .evRefTick s = .next t) ∧
    (s.ctrl.enable = true → ¬(s.vstat.srcExt = true ∧ s.cfg.intTimeout ≤ u.cnt.elapsed.toNat) →
      exec .evRefTick s = .next u)

/-- TIMEOUT_SWITCH (R211): SYNC_SRC and VLOCK are 0, SRC_CHG (bit 2) is pending, the generator starts on the odd field's
start line of the last detected standard, and an internal vertical sync (odd), a line event and the line's pulses follow.
The pulses of the line are low exactly in R213's two windows. Read from the spec by inference (log entry 22): R211 writes
the start lines 1 and 4, which are P_GEN_TABLE's field-start lines; a line that no row names has no pulse; and earlier
pulses are cut. -/
def Obligations.SwitchToInternal : Prop :=
  ∀ s : State, ∃ x y t : State,
    exec (.vsyncEvent .internal true) { s with
      vstat := { s.vstat with srcExt := false }, cnt := { s.cnt with vlock := false }, irq := irqAfter 0x004 s,
      gen := { s.gen with
        running := true, std := s.vstat.std, line := BitVec.ofNat 10 (s.cfg.genTable s.vstat.std).field1,
        next := (s.sched.clock % 2 ^ s.cfg.tsW + s.cfg.genLineClks.value s.vstat.std) % 2 ^ s.cfg.tsW },
      ports := { s.ports with syncOe := true } } = .next x ∧
    exec .lineEvent x = .next y ∧
    exec .timeoutSwitch s = .next t ∧ t = { y with trace := { y.trace with pulses := t.trace.pulses } } ∧
    ∀ n : Nat, syncOutAfter n t = false ↔
      n < t.cfg.slotWidth t.gen.std ((t.cfg.genTable t.gen.std).slots t.gen.line.toNat).1 ∨
      (t.cfg.genLineClks.value t.gen.std / 2 ≤ n ∧
        n < t.cfg.genLineClks.value t.gen.std / 2 +
          t.cfg.slotWidth t.gen.std ((t.cfg.genTable t.gen.std).slots t.gen.line.toNat).2)

/-- EV_GEN_LINE (R212, R213): gated by EN and GEN_ON; GEN_LINE goes on to the next line of a 625 or 525 line frame; on a
field-start line an internal vertical sync event comes first (odd at the first, even at the second); then a line event,
and the pulses of the line: `sync_out` is low exactly in R213's two windows. Read from the spec by inference (log entry 22):
the field-start lines are part of P_GEN_TABLE, a line that no row names has no pulse, and earlier pulses are cut. -/
def Obligations.GeneratedLine : Prop :=
  ∀ s : State,
    (s.ctrl.enable = false ∨ s.gen.running = false → exec .evGenLine s = .next s) ∧
    (s.ctrl.enable = true → s.gen.running = true →
      ∀ (n : Nat) (u : State),
        n = s.gen.line.toNat % (match s.gen.std with | .pal => 625 | .ntsc => 525) + 1 →
        u = { s with gen := { s.gen with
          line := BitVec.ofNat 10 n,
          next := (s.sched.clock % 2 ^ s.cfg.tsW + s.cfg.genLineClks.value s.gen.std) % 2 ^ s.cfg.tsW } } →
        ∃ x y t : State,
          (if n = (s.cfg.genTable s.gen.std).field1 then exec (.vsyncEvent .internal true) u = .next x
           else if n = (s.cfg.genTable s.gen.std).field2 then exec (.vsyncEvent .internal false) u = .next x
           else x = u) ∧
          exec .lineEvent x = .next y ∧
          exec .evGenLine s = .next t ∧ t = { y with trace := { y.trace with pulses := t.trace.pulses } } ∧
          ∀ k : Nat, syncOutAfter k t = false ↔
            k < s.cfg.slotWidth s.gen.std ((s.cfg.genTable s.gen.std).slots n).1 ∨
            (s.cfg.genLineClks.value s.gen.std / 2 ≤ k ∧
              k < s.cfg.genLineClks.value s.gen.std / 2 +
                s.cfg.slotWidth s.gen.std ((s.cfg.genTable s.gen.std).slots n).2))

/-- VSYNC_EVENT (R214): a zone that holds the bus is torn down first if OUT_EN = 1 (a running row is cut, and a device in dual
mode goes back by RSTIO_D, the toggles and EQIO_S: R306, R412); then LAST_COUNT <- LINE, LINE <- 0, and TEARDOWN becomes
PREROLL. GENUINE: STD, ELAPSED, VLOCK, the end of internal sync with SRC_CHG, PARITY toggles. INTERNAL: PARITY <- x. VSYNC
(bit 0) is pending. The count of streamed pixels is log entry 23 (DEDUCED), `fm_cs_n` between the frames is log
entry 18's, and frames that are still on the wires give way to the new ones (log entry 28). -/
def Obligations.VerticalSync : Prop :=
  ∀ (s : State) (x : Bool),
    ∃ a g i : State,
      (if s.ctrl.outEn = true ∧ holdsBus s.loe.zone then Aborted s a else a = s) ∧
      exec (.vsyncEvent .genuine x) s = .next g ∧
      g = { a with
        vstat := { a.vstat with std := if x then .ntsc else .pal, srcExt := true },
        cnt := { lastCount := s.cnt.line, line := 0, elapsed := 0, vlock := true, parity := !s.cnt.parity },
        loe := { a.loe with zone := if a.loe.zone = .teardown then .preroll else a.loe.zone },
        gen := if s.vstat.srcExt then a.gen else { a.gen with running := false },
        ports := if s.vstat.srcExt then a.ports else { a.ports with syncOe := false },
        irq := irqAfter (if s.vstat.srcExt then 0x001 else 0x005) a,
        trace := { a.trace with pulses := g.trace.pulses } } ∧
      (if s.vstat.srcExt then g.trace.pulses = s.trace.pulses else ∀ n : Nat, syncOutAfter n g = true) ∧
      exec (.vsyncEvent .internal x) s = .next i ∧
      i = { a with
        cnt := { s.cnt with lastCount := s.cnt.line, line := 0, parity := x },
        loe := { a.loe with zone := if a.loe.zone = .teardown then .preroll else a.loe.zone },
        irq := irqAfter 0x001 a }

/-- LINE_EVENT (R204): LINE counts modulo 2^16, and one line-output step runs, the one that the current ZONE decodes to. -/
def Obligations.LineEventSteps : Prop :=
  ∀ s : State,
    exec .lineEvent s = exec (zoneRow s.loe.zone)
      { s with cnt := { s.cnt with line := BitVec.ofNat 16 ((s.cnt.line.toNat + 1) % 2 ^ 16) } } ∧
    ∃ t : State, exec .lineEvent s = .next t

/-! ### Line output -/

/-- With OUT_EN = 0 the line-output step does nothing in any zone; with OUT_EN = 1 it does nothing in TEARDOWN while no row
is on the wires (R300, R307). -/
def Obligations.OutputFrozen : Prop :=
  ∀ (s : State) (b : BitVec 1),
    (s.ctrl.outEn = false → ∀ i,
      i = .zonePreroll ∨ i = .zoneSetup ∨ i = .zoneModeswitch ∨ i = .zoneActive ∨ i = .zoneTeardown ∨
      i = .zoneReserved5 ∨ i = .zoneReserved6 b → exec i s = .next s) ∧
    (s.ctrl.outEn = true → s.loe.streaming = false → exec .zoneTeardown s = .next s)

/-- The ZONE values 5 to 7 never occur; with OUT_EN = 1 the step stops on them with a fault of its own (R126, R300; the
stop is the model's choice, log entry 13). -/
def Obligations.ReservedZonesStop : Prop :=
  ∀ (s : State) (b : BitVec 1), s.ctrl.outEn = true →
    exec .zoneReserved5 s = .fault (.zoneNeverProduced 5) ∧
    exec (.zoneReserved6 b) s = .fault (.zoneNeverProduced (BitVec.ofNat 3 (6 + b.toNat)))

/-- A row still on the wires at a line event is cut first: OVERRUN (bit 9) is pending, STREAMING and `pix_valid` are 0, the
newest row record says how many pixels were streamed, and the step then goes on as without it (R300, R313). The number of
streamed pixels, floor((now − t_pix) / PIX_DIV) and at most 4·RW, is read from R313 by inference (log entry 23). -/
def Obligations.OverrunCutsRow : Prop :=
  ∀ (s : State) (z : Zone), s.ctrl.outEn = true → s.loe.streaming = true →
    ∃ c t : State,
      c = { s with
        loe := { s.loe with streaming := false },
        ports := { s.ports with pixValid := false },
        irq := irqAfter 0x200 s,
        trace := { s.trace with
          rows := (match s.trace.rows with
            | [] => []
            | r :: rest =>
              { r with streamed := min ((s.sched.clock - s.sched.pixDue) / s.loe.pixDiv) (4 * s.loe.rw.toNat) } :: rest),
          frames := c.trace.frames } } ∧
      pinFmCsN c = true ∧ exec (zoneRow z) s = exec (zoneRow z) c ∧ exec (zoneRow z) s = .next t

/-- ZONE_PREROLL (R301, R302): on the line T − 2 of the live profile, with T ≥ 3, a ready device and a valid width, the
setup zone latches the profile, computes LAST_LINE, RW, PIX_DIV, STRIDE and ADDR, sets BUSY, and raises BUS_CLAIM (bit 3)
and, when the last field's count limits the field, CLAMP (bit 6); on every other line nothing changes. -/
def Obligations.PrerollAndSetup : Prop :=
  ∀ (s : State) (p : Profile) (lim : Nat),
    p = (if s.ctrl.profSel then s.prof1 else s.prof0) →
    lim = (match s.vstat.std with | .pal => s.cfg.lines.pal | .ntsc => s.cfg.lines.ntsc) - p.bot.toNat →
    s.ctrl.outEn = true → s.loe.streaming = false →
    (∀ e : Nat × Nat, 3 ≤ p.top.toNat → s.cnt.line.toNat + 2 = p.top.toNat → s.arb.ready = true →
      s.cfg.xsizes[p.hsizeSel.toNat]? = some e →
      exec .zonePreroll s = .next { s with
        loe := { s.loe with
          wSel := p.hsizeSel, wBot := p.bot, wHoff := p.hoff, wScan := p.scan,
          lastLine := BitVec.ofNat 16 (min lim s.cnt.lastCount.toNat),
          rw := BitVec.ofNat 16 (e.1 / 4), pixDiv := e.2,
          stride := BitVec.ofNat 17 (if p.scan then 2 * (e.1 / 4) else e.1 / 4),
          addr := BitVec.ofNat 24 (if p.scan = true ∧ s.cnt.parity = false then e.1 / 4 else 0),
          busy := true, zone := .setup },
        irq := irqAfter (if s.cnt.lastCount.toNat < lim then 0x048 else 0x008) s }) ∧
    (¬(3 ≤ p.top.toNat ∧ s.cnt.line.toNat + 2 = p.top.toNat ∧ s.arb.ready = true ∧
        p.hsizeSel.toNat < s.cfg.xsizes.length) → exec .zonePreroll s = .next s)

/-- ZONE_SETUP, the mode-switch step (R303, R411): at or past LAST_LINE the field ends with FIELD_DONE (bit 4) and no wire
activity; while XFER = 1 it holds; otherwise RSTIO_Q, the extra toggles and EDIO_S go out, the device and FM_MODE end in
DUAL, FIRST is 1 and HSTART is armed. The frames end (10 + P_MS_EXTRA_CLKS)·P_FM_SCK_DIV cycles after the line event (R411,
R730). Model's choices: where `fm_cs_n` is 1 between the two frames (log entry 18; StreamEvents); a device in any mode ends in DUAL (log entry 16); the sum is assumed to fit
HSTART's 17 bits (log entry 5; HstartOverflowIsFree has the others). -/
def Obligations.ModeSwitchStep : Prop :=
  ∀ s : State, s.ctrl.outEn = true → s.loe.streaming = false →
    (s.loe.lastLine.toNat ≤ s.cnt.line.toNat →
      exec .zoneSetup s = .next { s with
        loe := { s.loe with busy := false, zone := .teardown }, irq := irqAfter 0x010 s }) ∧
    (s.cnt.line.toNat < s.loe.lastLine.toNat → s.arb.xfer = true → exec .zoneSetup s = .next s) ∧
    (∀ (h c d m : Nat), s.cnt.line.toNat < s.loe.lastLine.toNat → s.arb.xfer = false →
      h = s.loe.wHoff.toNat + s.cfg.comp true s.cnt.vlock s.vstat.srcExt → h < 2 ^ 17 →
      c = s.sched.clock → d = s.cfg.fmSckDiv → m = s.cfg.msExtra →
      exec .zoneSetup s = .next { s with
        loe := { s.loe with first := true, hstart := BitVec.ofNat 17 h, zone := .modeswitch },
        arb := { s.arb with mode := .dual },
        dev := { s.dev with mode := .dual },
        trace := { s.trace with frames :=
          ⟨.edioS, c + (2 + m) * d, c + (2 + m + 8) * d, d, c + (2 + m) * d⟩ ::
          ⟨.toggles m, c + 2 * d, c + (2 + m) * d, d, c + 2 * d⟩ ::
          ⟨.rstioQ, c, c + 2 * d, d, c⟩ :: s.trace.frames } })

/-- HSTART when its sum needs more than 17 bits: a free value of that sum, and nothing else differs. The mode-switch step
(ZONE_SETUP) and the active step (ZONE_MODESWITCH, ZONE_ACTIVE) leave the whole next state that they leave for any other
sum, with that value in HSTART (R303, R304; that HSTART is then free is the model's choice, log entry 5). `fm_cs_n`
between the frames is log entry 18's, a device that ends in DUAL from any mode is log entry 16's, the draws are log entry
3's and `out` is log entry 6's. -/
def Obligations.HstartOverflowIsFree : Prop :=
  ∀ (s : State) (h : Nat), s.ctrl.outEn = true → s.loe.streaming = false →
    s.cnt.line.toNat < s.loe.lastLine.toNat → 2 ^ 17 ≤ h →
    (s.arb.xfer = false → h = s.loe.wHoff.toNat + s.cfg.comp true s.cnt.vlock s.vstat.srcExt →
      exec .zoneSetup s = .next (switched s (Config.hstartOver h))) ∧
    (h = s.loe.wHoff.toNat + s.cfg.comp false s.cnt.vlock s.vstat.srcExt → ∀ i : Instr,
      i = .zoneModeswitch ∨ i = .zoneActive → ∃ t : State, exec i s = .next t ∧ RowSent s (Config.hstartOver h) t)

/-- ZONE_MODESWITCH and ZONE_ACTIVE before LAST_LINE (R304, R312, R313, R140): the row of RW bytes at ADDR is read and
recorded with its line and parity, four pixels a byte from the most significant pair; the stream starts, its events due at
max(HSTART, H) and 4·RW·PIX_DIV later; ADDR advances by STRIDE modulo 2^24; HSTART is armed for the next line. On a device in
dual mode no byte of the memory changes, and each byte of the row is the memory's (a draw where nothing was written) while
the device drives `fm_sio_i`. On a device that something outside the block has put in another mode the row is recorded and
streamed all the same, and every byte of the memory and the mode are draws (R413). Model's choices: the draws and the draw
counter (log entry 3), `out` and the source of `fm_sio_i` (log entry 6); the sum for HSTART is assumed to fit its 17 bits
(log entry 5; HstartOverflowIsFree has the others). -/
def Obligations.ActiveRow : Prop :=
  ∀ (s : State) (i : Instr) (h : Nat), i = .zoneModeswitch ∨ i = .zoneActive →
    s.ctrl.outEn = true → s.loe.streaming = false → s.cnt.line.toNat < s.loe.lastLine.toNat →
    h = s.loe.wHoff.toNat + s.cfg.comp false s.cnt.vlock s.vstat.srcExt → h < 2 ^ 17 →
    ∃ t : State, exec i s = .next t ∧ RowSent s (BitVec.ofNat 17 h) t ∧
      (s.dev.mode = .dual → ∀ a : Nat, memRead t.dev.mem a = memRead s.dev.mem a) ∧
      (s.dev.mode = .dual → s.dev.sio = .device → ∀ k < s.loe.rw.toNat, t.dev.out[k]? =
        some (match memRead s.dev.mem ((s.loe.addr.toNat + k) % s.cfg.fmBytes) with
          | some b => b
          | none => Config.drawByte s.sched.draws k)) ∧
      (s.dev.mode ≠ .dual → ∀ a : Nat, memRead t.dev.mem a = none)

/-- ZONE_MODESWITCH and ZONE_ACTIVE at or past LAST_LINE (R304, R305, R412): RSTIO_D, the extra toggles and EQIO_S go out,
the device and FM_MODE end in QUAD, BUSY is 0, ZONE is TEARDOWN and FIELD_DONE (bit 4) is pending. The
frames end (12 + P_MS_EXTRA_CLKS)·P_FM_SCK_DIV cycles after the line event (R412, R730). Model's choices: where `fm_cs_n` is 1
between the two frames (log entry 18; StreamEvents); a device in any mode ends in QUAD (log entry 16). -/
def Obligations.ActiveTeardown : Prop :=
  ∀ (s : State) (i : Instr) (c d m : Nat), i = .zoneModeswitch ∨ i = .zoneActive →
    s.ctrl.outEn = true → s.loe.streaming = false → s.loe.lastLine.toNat ≤ s.cnt.line.toNat →
    c = s.sched.clock → d = s.cfg.fmSckDiv → m = s.cfg.msExtra →
    exec i s = .next { s with
      loe := { s.loe with busy := false, zone := .teardown },
      arb := { s.arb with mode := .quad },
      dev := { s.dev with mode := .quad },
      irq := irqAfter 0x010 s,
      trace := { s.trace with frames :=
        ⟨.eqioS, c + (4 + m) * d, c + (4 + m + 8) * d, d, c + (4 + m) * d⟩ ::
        ⟨.toggles m, c + 4 * d, c + (4 + m) * d, d, c + 4 * d⟩ ::
        ⟨.rstioD, c, c + 4 * d, d, c⟩ :: s.trace.frames } }

/-- EV_PIX_START sets `pix_valid`; EV_STREAM_END ends the row: STREAMING and `pix_valid` are 0, all 4·RW pixels count as
streamed, the wires are idle (R313). With no row on the wires neither event changes anything (model's choice, log
entry 8). And the pins, cycle by cycle: while `pix_valid`, `pix_out` is the row's pixel of this cycle, one per PIX_DIV cycles
from t_pix, and the pair {SIO1, SIO0} of a DREAD's data on `fm_sio_i` is that pixel (R42, R313). A frame is one `fm_cs_n` low
period, from its start to its end, and a frame that starts where another ends has `fm_cs_n = 1` in its first cycle and for at
most one `fm_sck` period; it is 1 in the toggles (R137, R411, R412, R414). In a frame
`fm_sio_oe` and `fm_sio_o` carry its bytes clock by clock, from the most significant bit, on the lines of its mode, and
the lines are released in the dummy and data clocks (R137, R85); a row read waits for t_pix with `fm_sck` at 0 (R313); a
QREAD's data comes in on `fm_sio_i`. With no frame running `fm_cs_n` is 1, `fm_sck` 0 and `fm_sio_oe` 0x0 (R400). Model's
choices: of frames that overlap the newest that has started is on the wires (log entry 28); how long `fm_cs_n` stays 1 where
a frame starts at another's end is a free value (log entry 18); what a QREAD's data is before the completion (log entries 3, 6 and 17). -/
def Obligations.StreamEvents : Prop :=
  (∀ s : State, s.loe.streaming = true →
    exec .evPixStart s = .next { s with ports := { s.ports with pixValid := true } } ∧
    ∃ t : State, exec .evStreamEnd s = .next t ∧
      t = { s with
        loe := { s.loe with streaming := false },
        ports := { s.ports with pixValid := false },
        trace := { s.trace with
          rows := (match s.trace.rows with
            | [] => []
            | r :: rest => { r with streamed := 4 * s.loe.rw.toNat } :: rest),
          frames := t.trace.frames } } ∧
      pinFmCsN t = true ∧ pinFmSioOe t = 0) ∧
  (∀ s : State, s.loe.streaming = false → exec .evPixStart s = .next s ∧ exec .evStreamEnd s = .next s) ∧
  (∀ (s : State) (row : Row) (rest : List Row) (p : Pixel), s.trace.rows = row :: rest → s.ports.pixValid = true →
    row.pixels[(s.sched.clock - s.sched.pixDue) / s.loe.pixDiv]? = some p → pinPixOut s = p) ∧
  (∀ (s : State) (after before : List WireRec) (r : WireRec), s.trace.frames = after ++ r :: before →
    (∀ q ∈ after, s.sched.clock < q.start) → r.start ≤ s.sched.clock → s.sched.clock < r.stop → 0 < r.div →
    ((∃ m : Nat, r.frame = .toggles m) → pinFmCsN s = true) ∧
    ((∀ m : Nat, r.frame ≠ .toggles m) →
      (pinFmCsN s = true ↔
        StartsAtAnEnd before r ∧ s.sched.clock < r.start + 1 + Config.selectHigh r.start % r.div)) ∧
    (∀ (m : DevMode) (bytes : List Nat) (k : Nat), FrameDrives s.cfg.cmds r.frame m bytes →
      (∀ a n, r.frame ≠ .dread a n) → r.resume = r.start → k = (s.sched.clock - r.start) / r.div →
      ClockDrives s m bytes k) ∧
    (∀ (a : FmAddr) (n : Nat) (m : DevMode) (bytes : List Nat) (k : Nat), r.frame = .dread a n →
      FrameDrives s.cfg.cmds r.frame m bytes →
      (s.sched.clock < r.resume ∧ k = (s.sched.clock - r.start) / r.div ∨
        r.resume ≤ s.sched.clock ∧ k = 16 + s.cfg.dummyDual + (s.sched.clock - r.resume) / r.div) →
      (s.sched.clock < r.resume → 16 + s.cfg.dummyDual ≤ k → pinFmSck s = false ∧ pinFmSioOe s = 0) ∧
      (k < 16 + s.cfg.dummyDual ∨ r.resume ≤ s.sched.clock → ClockDrives s m bytes k) ∧
      (r.resume ≤ s.sched.clock → ∀ (row : Row) (rest : List Row) (p : Pixel), s.trace.rows = row :: rest →
        row.pixels[(s.sched.clock - r.resume) / r.div]? = some p → (pinFmSioI s).toNat % 4 = p.toNat)) ∧
    (∀ (a : FmAddr) (n j : Nat) (b : Byte), r.frame = .qread a n → r.resume = r.start →
      (s.sched.clock - r.start) / r.div = 8 + s.cfg.dummyQuad + j →
      (bytesIn s s.sched.xferMode .quad s.sched.xferDraw a.toNat n)[j / 2]? = some b →
      (pinFmSioI s).toNat = b.toNat / 16 ^ (1 - j % 2) % 16)) ∧
  (∀ s : State, (∀ q ∈ s.trace.frames, q.start ≤ s.sched.clock → q.stop ≤ s.sched.clock) →
    pinFmCsN s = true ∧ pinFmSck s = false ∧ pinFmSioOe s = 0)

/-- A whole field from its pre-roll (R308, R309, R310): from the line before the setup line, with OUT_EN = 1, no transaction
and setup's preconditions met, the line events up to LAST_LINE (or to the mode-switch line T − 1, if LAST_LINE is not past
it) leave TEARDOWN with BUSY = 0 and have emitted exactly max(0, LAST_LINE − T) rows, the k-th of them at
(ADDR0 + k·STRIDE) mod 2^24. The line events follow one another with no time between them (`runLines`), so each row is cut by
the next line; no count and no address depends on time. -/
def Obligations.FieldEmitsItsRows : Prop :=
  ∀ (s : State) (p : Profile) (e : Nat × Nat) (last a0 step : Nat),
    p = (if s.ctrl.profSel then s.prof1 else s.prof0) →
    last = min ((match s.vstat.std with | .pal => s.cfg.lines.pal | .ntsc => s.cfg.lines.ntsc) - p.bot.toNat)
      s.cnt.lastCount.toNat →
    a0 = (if p.scan = true ∧ s.cnt.parity = false then e.1 / 4 else 0) →
    step = (if p.scan then 2 * (e.1 / 4) else e.1 / 4) →
    s.ctrl.outEn = true → s.loe.zone = .preroll → s.loe.streaming = false → s.arb.xfer = false →
    s.arb.ready = true → s.cfg.xsizes[p.hsizeSel.toNat]? = some e → s.cnt.line.toNat + 3 = p.top.toNat →
    ∃ t : State, runLines (max last (p.top.toNat - 1) - s.cnt.line.toNat) s = .next t ∧
      t.loe.zone = .teardown ∧ t.loe.busy = false ∧
      t.trace.rows.length = s.trace.rows.length + (last - p.top.toNat) ∧
      ∀ k < last - p.top.toNat,
        (t.trace.rows.map Row.addr)[last - p.top.toNat - 1 - k]? = some (BitVec.ofNat 24 (a0 + k * step))

/-! ### Reset -/

/-- EV_RESET always completes (R700): every state element of the block takes its reset value, every scheduled event is
cancelled, the other events of the cycle and before are discarded; the parameters, the later stimuli and the device's
contents stay, but that a WRITE on the wires leaves its bytes draws, and a WRITE or READ that was sent in another mode than
the device's leaves every byte a draw (R413); a running row is cut and its count of streamed pixels is
final (R313, log entry 23). DEV_MODE is a draw after every reset: spec/93_implementation_defined.md rules "any value" for
DEV_MODE after a reset during any frame or after a block reset without a power cycle, and a draw may be the mode the device
was left in (R43; log entry 7). Model's choices: XFER_KIND is INIT (log entry 1), the numbered draw and the draw counter (log
entry 3), the mode at a frame's start is the one kept at issue (log entry 17), bytes that are draws are not listed (log entry 4), the observations are kept and the record of the wires begins
anew (log entry 26), an outside frame of the reset cycle is discarded (log entry 10). -/
def Obligations.ResetEvent : Prop :=
  ∀ s : State, ∃ t : State, exec .evReset s = .next t ∧
    t = { s with
      ctrl := ⟨false, false, !s.cfg.hasExtSync, false⟩, vstat := ⟨true, .pal, false, 0, 0⟩, cnt := ⟨0, 0, false, false, 0⟩,
      det := ⟨0, 0, 0, false, 0, false⟩, gen := ⟨0, false, .pal, 0, 0⟩,
      loe := ⟨.preroll, false, 0, 0, 0, false, 0, 0, 0, 0, 0, false, false, 0⟩,
      arb := ⟨false, .unknown, false, .init, .ok, 0, 0, [], 0⟩, irq := ⟨0, 0, 0, 0⟩,
      prof0 := ⟨0, 0, 0, 0, false⟩, prof1 := ⟨0, 0, 0, 0, false⟩, ports := ⟨0, false, false⟩,
      dev := { s.dev with mem := t.dev.mem, mode := Config.drawMode s.sched.draws },
      sched := ⟨s.sched.clock, 0, 0, 0, 0, .single, s.sched.draws + 1⟩,
      trace := { s.trace with
        rows := if s.loe.streaming then rowsCut s else s.trace.rows, pulses := t.trace.pulses, frames := [] },
      inputs := s.inputs.filter (fun q => decide (s.sched.clock < q.time)) } ∧
    (∀ a : Nat, memRead t.dev.mem a =
      if s.arb.xfer = true ∧ s.arb.kind ≠ .init ∧ s.sched.xferMode ≠ .quad then none
      else if s.arb.xfer = true ∧ s.arb.kind = .write ∧
        s.arb.fmAddr.toNat ≤ a ∧ a < s.arb.fmAddr.toNat + s.arb.fmLen.toNat then none
      else memRead s.dev.mem a) ∧
    (∀ n : Nat, syncOutAfter n t = true) ∧ pinFmCsN t = true ∧ pinFmSck t = false ∧ pinFmSioO t = 0xF ∧
    pinFmSioOe t = 0 ∧ pinPixOut t = 0 ∧ pinIrq t = false

/-! ### Invariants and rules of the whole machine -/

/-- The machine right after reset meets every invariant (R22 to R45); the range invariant for the pulse tables of R144. -/
def Obligations.ResetMeetsInvariants : Prop :=
  BusInv State.reset ∧ SyncInv State.reset ∧ MemInv State.reset ∧ DeviceInv State.reset ∧ RangeInv State.reset

/-- Every step keeps the ownership of the frame-memory bus (R45, R46, R400). -/
def Obligations.StepKeepsBus : Prop :=
  ∀ s t : State, BusInv s → step s = .next t → BusInv t

/-- Every step keeps the rules of the sync source: GEN_ON = 1 exactly while SYNC_SRC = 0 and EN = 1 (R32), a lock only on
external sync (R205), `sync_oe` as GEN_ON (R213). -/
def Obligations.StepKeepsSync : Prop :=
  ∀ s t : State, SyncInv s → step s = .next t → SyncInv t

/-- Every operation keeps the form of the frame memory and of the buffer, and BUFPTR inside the buffer (R43, R84, R516). -/
def Obligations.ExecKeepsMemory : Prop :=
  ∀ (i : Instr) (s t : State), MemInv s → exec i s = .next t → MemInv t

/-- Every step keeps the device in the wire mode that FM_MODE names, while nothing outside the block drives the wires
(R413). -/
def Obligations.StepKeepsDevice : Prop :=
  ∀ s t : State, BusInv s → DeviceInv s → step s = .next t → DeviceInv t

/-- Every operation keeps the stated ranges of timestamps, SR_CNT, GEN_LINE and SYNC_MODE (R9, R22, R29, R32), and the
parameters never change (R11). -/
def Obligations.ExecKeepsRanges : Prop :=
  ∀ (i : Instr) (s t : State), exec i s = .next t → t.cfg = s.cfg ∧ (RangeInv s → RangeInv t)

/-- VSTAT.STD changes only at a genuine vertical sync event (or a reset): no host access, no frame, no internal sync and no
timer writes it (R215). -/
def Obligations.StandardHasOneWriter : Prop :=
  ∀ (i : Instr) (s t : State), exec i s = .next t → t.vstat.std ≠ s.vstat.std →
    i = .evReset ∨
    ((i = .evVsync ∨ i = .evCmp ∨ ∃ x : Bool, i = .vsyncEvent .genuine x) ∧
      t.cnt.vlock = true ∧ t.vstat.srcExt = true ∧ t.cnt.line = 0)

/-- SYNC_SRC never changes without SRC_CHG (bit 2) becoming pending, in either direction, but for a reset (R602). -/
def Obligations.SourceChangeIsReported : Prop :=
  ∀ (i : Instr) (s t : State), exec i s = .next t → t.vstat.srcExt ≠ s.vstat.srcExt →
    i = .evReset ∨ t.irq.pend.getLsbD 2 = true

/-- BUSY goes to 1 only with BUS_CLAIM (bit 3) pending, and to 0 only with FIELD_DONE (bit 4) or ABORT (bit 5) pending, or at
a reset (R311, R602). -/
def Obligations.BusyEdgesAreReported : Prop :=
  ∀ (i : Instr) (s t : State), exec i s = .next t → t.loe.busy ≠ s.loe.busy →
    i = .evReset ∨ (t.loe.busy = true ∧ t.irq.pend.getLsbD 3 = true) ∨
      (t.loe.busy = false ∧ (t.irq.pend.getLsbD 4 = true ∨ t.irq.pend.getLsbD 5 = true))
end

