-- ==== Sys2Proof/Laws/State.lean ====
section
/-! SUPPORT. For each shared operation, the parts of the state it leaves alone (one lemma per part, true by rfl), and the
values it gives to the parts it writes. Later proofs cite these and do not unfold the operation. -/

namespace Sys2Proof.Machine

-- Elaborated one after another: hundreds of one-line lemmas at once would each take a thread and its stack.
set_option Elab.async false

@[simp] theorem raiseInt_cfg (n : IntSrc) (s : State) : (raiseInt n s).cfg = s.cfg := rfl
@[simp] theorem raiseInt_ctrl (n : IntSrc) (s : State) : (raiseInt n s).ctrl = s.ctrl := rfl
@[simp] theorem raiseInt_vstat (n : IntSrc) (s : State) : (raiseInt n s).vstat = s.vstat := rfl
@[simp] theorem raiseInt_cnt (n : IntSrc) (s : State) : (raiseInt n s).cnt = s.cnt := rfl
@[simp] theorem raiseInt_det (n : IntSrc) (s : State) : (raiseInt n s).det = s.det := rfl
@[simp] theorem raiseInt_gen (n : IntSrc) (s : State) : (raiseInt n s).gen = s.gen := rfl
@[simp] theorem raiseInt_loe (n : IntSrc) (s : State) : (raiseInt n s).loe = s.loe := rfl
@[simp] theorem raiseInt_arb (n : IntSrc) (s : State) : (raiseInt n s).arb = s.arb := rfl
@[simp] theorem raiseInt_prof0 (n : IntSrc) (s : State) : (raiseInt n s).prof0 = s.prof0 := rfl
@[simp] theorem raiseInt_prof1 (n : IntSrc) (s : State) : (raiseInt n s).prof1 = s.prof1 := rfl
@[simp] theorem raiseInt_dev (n : IntSrc) (s : State) : (raiseInt n s).dev = s.dev := rfl
@[simp] theorem raiseInt_ports (n : IntSrc) (s : State) : (raiseInt n s).ports = s.ports := rfl
@[simp] theorem raiseInt_sched (n : IntSrc) (s : State) : (raiseInt n s).sched = s.sched := rfl
@[simp] theorem raiseInt_trace (n : IntSrc) (s : State) : (raiseInt n s).trace = s.trace := rfl
@[simp] theorem raiseInt_inputs (n : IntSrc) (s : State) : (raiseInt n s).inputs = s.inputs := rfl
@[simp] theorem raiseInt_held (n : IntSrc) (s : State) : (raiseInt n s).held = s.held := rfl

@[simp] theorem ackInt_cfg (v : BitVec 10) (s : State) : (ackInt v s).cfg = s.cfg := rfl
@[simp] theorem ackInt_ctrl (v : BitVec 10) (s : State) : (ackInt v s).ctrl = s.ctrl := rfl
@[simp] theorem ackInt_vstat (v : BitVec 10) (s : State) : (ackInt v s).vstat = s.vstat := rfl
@[simp] theorem ackInt_cnt (v : BitVec 10) (s : State) : (ackInt v s).cnt = s.cnt := rfl
@[simp] theorem ackInt_det (v : BitVec 10) (s : State) : (ackInt v s).det = s.det := rfl
@[simp] theorem ackInt_gen (v : BitVec 10) (s : State) : (ackInt v s).gen = s.gen := rfl
@[simp] theorem ackInt_loe (v : BitVec 10) (s : State) : (ackInt v s).loe = s.loe := rfl
@[simp] theorem ackInt_arb (v : BitVec 10) (s : State) : (ackInt v s).arb = s.arb := rfl
@[simp] theorem ackInt_prof0 (v : BitVec 10) (s : State) : (ackInt v s).prof0 = s.prof0 := rfl
@[simp] theorem ackInt_prof1 (v : BitVec 10) (s : State) : (ackInt v s).prof1 = s.prof1 := rfl
@[simp] theorem ackInt_dev (v : BitVec 10) (s : State) : (ackInt v s).dev = s.dev := rfl
@[simp] theorem ackInt_ports (v : BitVec 10) (s : State) : (ackInt v s).ports = s.ports := rfl
@[simp] theorem ackInt_sched (v : BitVec 10) (s : State) : (ackInt v s).sched = s.sched := rfl
@[simp] theorem ackInt_trace (v : BitVec 10) (s : State) : (ackInt v s).trace = s.trace := rfl
@[simp] theorem ackInt_inputs (v : BitVec 10) (s : State) : (ackInt v s).inputs = s.inputs := rfl
@[simp] theorem ackInt_held (v : BitVec 10) (s : State) : (ackInt v s).held = s.held := rfl

@[simp] theorem cmdError_cfg (c : ErrCode) (s : State) : (cmdError c s).cfg = s.cfg := rfl
@[simp] theorem cmdError_ctrl (c : ErrCode) (s : State) : (cmdError c s).ctrl = s.ctrl := rfl
@[simp] theorem cmdError_vstat (c : ErrCode) (s : State) : (cmdError c s).vstat = s.vstat := rfl
@[simp] theorem cmdError_cnt (c : ErrCode) (s : State) : (cmdError c s).cnt = s.cnt := rfl
@[simp] theorem cmdError_det (c : ErrCode) (s : State) : (cmdError c s).det = s.det := rfl
@[simp] theorem cmdError_gen (c : ErrCode) (s : State) : (cmdError c s).gen = s.gen := rfl
@[simp] theorem cmdError_loe (c : ErrCode) (s : State) : (cmdError c s).loe = s.loe := rfl
@[simp] theorem cmdError_prof0 (c : ErrCode) (s : State) : (cmdError c s).prof0 = s.prof0 := rfl
@[simp] theorem cmdError_prof1 (c : ErrCode) (s : State) : (cmdError c s).prof1 = s.prof1 := rfl
@[simp] theorem cmdError_dev (c : ErrCode) (s : State) : (cmdError c s).dev = s.dev := rfl
@[simp] theorem cmdError_ports (c : ErrCode) (s : State) : (cmdError c s).ports = s.ports := rfl
@[simp] theorem cmdError_sched (c : ErrCode) (s : State) : (cmdError c s).sched = s.sched := rfl
@[simp] theorem cmdError_trace (c : ErrCode) (s : State) : (cmdError c s).trace = s.trace := rfl
@[simp] theorem cmdError_inputs (c : ErrCode) (s : State) : (cmdError c s).inputs = s.inputs := rfl
@[simp] theorem cmdError_held (c : ErrCode) (s : State) : (cmdError c s).held = s.held := rfl

@[simp] theorem nextDraw_cfg (s : State) : (nextDraw s).cfg = s.cfg := rfl
@[simp] theorem nextDraw_ctrl (s : State) : (nextDraw s).ctrl = s.ctrl := rfl
@[simp] theorem nextDraw_vstat (s : State) : (nextDraw s).vstat = s.vstat := rfl
@[simp] theorem nextDraw_cnt (s : State) : (nextDraw s).cnt = s.cnt := rfl
@[simp] theorem nextDraw_det (s : State) : (nextDraw s).det = s.det := rfl
@[simp] theorem nextDraw_gen (s : State) : (nextDraw s).gen = s.gen := rfl
@[simp] theorem nextDraw_loe (s : State) : (nextDraw s).loe = s.loe := rfl
@[simp] theorem nextDraw_arb (s : State) : (nextDraw s).arb = s.arb := rfl
@[simp] theorem nextDraw_irq (s : State) : (nextDraw s).irq = s.irq := rfl
@[simp] theorem nextDraw_prof0 (s : State) : (nextDraw s).prof0 = s.prof0 := rfl
@[simp] theorem nextDraw_prof1 (s : State) : (nextDraw s).prof1 = s.prof1 := rfl
@[simp] theorem nextDraw_dev (s : State) : (nextDraw s).dev = s.dev := rfl
@[simp] theorem nextDraw_ports (s : State) : (nextDraw s).ports = s.ports := rfl
@[simp] theorem nextDraw_trace (s : State) : (nextDraw s).trace = s.trace := rfl
@[simp] theorem nextDraw_inputs (s : State) : (nextDraw s).inputs = s.inputs := rfl
@[simp] theorem nextDraw_held (s : State) : (nextDraw s).held = s.held := rfl

@[simp] theorem devScramble_cfg (s : State) : (devScramble s).cfg = s.cfg := rfl
@[simp] theorem devScramble_ctrl (s : State) : (devScramble s).ctrl = s.ctrl := rfl
@[simp] theorem devScramble_vstat (s : State) : (devScramble s).vstat = s.vstat := rfl
@[simp] theorem devScramble_cnt (s : State) : (devScramble s).cnt = s.cnt := rfl
@[simp] theorem devScramble_det (s : State) : (devScramble s).det = s.det := rfl
@[simp] theorem devScramble_gen (s : State) : (devScramble s).gen = s.gen := rfl
@[simp] theorem devScramble_loe (s : State) : (devScramble s).loe = s.loe := rfl
@[simp] theorem devScramble_arb (s : State) : (devScramble s).arb = s.arb := rfl
@[simp] theorem devScramble_irq (s : State) : (devScramble s).irq = s.irq := rfl
@[simp] theorem devScramble_prof0 (s : State) : (devScramble s).prof0 = s.prof0 := rfl
@[simp] theorem devScramble_prof1 (s : State) : (devScramble s).prof1 = s.prof1 := rfl
@[simp] theorem devScramble_ports (s : State) : (devScramble s).ports = s.ports := rfl
@[simp] theorem devScramble_trace (s : State) : (devScramble s).trace = s.trace := rfl
@[simp] theorem devScramble_inputs (s : State) : (devScramble s).inputs = s.inputs := rfl
@[simp] theorem devScramble_held (s : State) : (devScramble s).held = s.held := rfl

@[simp] theorem devRstio_cfg (s : State) : (devRstio s).cfg = s.cfg := rfl
@[simp] theorem devRstio_ctrl (s : State) : (devRstio s).ctrl = s.ctrl := rfl
@[simp] theorem devRstio_vstat (s : State) : (devRstio s).vstat = s.vstat := rfl
@[simp] theorem devRstio_cnt (s : State) : (devRstio s).cnt = s.cnt := rfl
@[simp] theorem devRstio_det (s : State) : (devRstio s).det = s.det := rfl
@[simp] theorem devRstio_gen (s : State) : (devRstio s).gen = s.gen := rfl
@[simp] theorem devRstio_loe (s : State) : (devRstio s).loe = s.loe := rfl
@[simp] theorem devRstio_arb (s : State) : (devRstio s).arb = s.arb := rfl
@[simp] theorem devRstio_irq (s : State) : (devRstio s).irq = s.irq := rfl
@[simp] theorem devRstio_prof0 (s : State) : (devRstio s).prof0 = s.prof0 := rfl
@[simp] theorem devRstio_prof1 (s : State) : (devRstio s).prof1 = s.prof1 := rfl
@[simp] theorem devRstio_ports (s : State) : (devRstio s).ports = s.ports := rfl
@[simp] theorem devRstio_sched (s : State) : (devRstio s).sched = s.sched := rfl
@[simp] theorem devRstio_trace (s : State) : (devRstio s).trace = s.trace := rfl
@[simp] theorem devRstio_inputs (s : State) : (devRstio s).inputs = s.inputs := rfl
@[simp] theorem devRstio_held (s : State) : (devRstio s).held = s.held := rfl

@[simp] theorem devEnter_cfg (m : DevMode) (s : State) : (devEnter m s).cfg = s.cfg := by unfold devEnter; split <;> rfl
@[simp] theorem devEnter_ctrl (m : DevMode) (s : State) : (devEnter m s).ctrl = s.ctrl := by unfold devEnter; split <;> rfl
@[simp] theorem devEnter_vstat (m : DevMode) (s : State) : (devEnter m s).vstat = s.vstat := by unfold devEnter; split <;> rfl
@[simp] theorem devEnter_cnt (m : DevMode) (s : State) : (devEnter m s).cnt = s.cnt := by unfold devEnter; split <;> rfl
@[simp] theorem devEnter_det (m : DevMode) (s : State) : (devEnter m s).det = s.det := by unfold devEnter; split <;> rfl
@[simp] theorem devEnter_gen (m : DevMode) (s : State) : (devEnter m s).gen = s.gen := by unfold devEnter; split <;> rfl
@[simp] theorem devEnter_loe (m : DevMode) (s : State) : (devEnter m s).loe = s.loe := by unfold devEnter; split <;> rfl
@[simp] theorem devEnter_arb (m : DevMode) (s : State) : (devEnter m s).arb = s.arb := by unfold devEnter; split <;> rfl
@[simp] theorem devEnter_irq (m : DevMode) (s : State) : (devEnter m s).irq = s.irq := by unfold devEnter; split <;> rfl
@[simp] theorem devEnter_prof0 (m : DevMode) (s : State) : (devEnter m s).prof0 = s.prof0 := by unfold devEnter; split <;> rfl
@[simp] theorem devEnter_prof1 (m : DevMode) (s : State) : (devEnter m s).prof1 = s.prof1 := by unfold devEnter; split <;> rfl
@[simp] theorem devEnter_ports (m : DevMode) (s : State) : (devEnter m s).ports = s.ports := by unfold devEnter; split <;> rfl
@[simp] theorem devEnter_trace (m : DevMode) (s : State) : (devEnter m s).trace = s.trace := by unfold devEnter; split <;> rfl
@[simp] theorem devEnter_inputs (m : DevMode) (s : State) : (devEnter m s).inputs = s.inputs := by unfold devEnter; split <;> rfl
@[simp] theorem devEnter_held (m : DevMode) (s : State) : (devEnter m s).held = s.held := by unfold devEnter; split <;> rfl

@[simp] theorem devWrite_cfg (m : DevMode) (a : FmAddr) (data : List Byte) (s : State) : (devWrite m a data s).cfg = s.cfg := by unfold devWrite; split <;> rfl
@[simp] theorem devWrite_ctrl (m : DevMode) (a : FmAddr) (data : List Byte) (s : State) : (devWrite m a data s).ctrl = s.ctrl := by unfold devWrite; split <;> rfl
@[simp] theorem devWrite_vstat (m : DevMode) (a : FmAddr) (data : List Byte) (s : State) : (devWrite m a data s).vstat = s.vstat := by unfold devWrite; split <;> rfl
@[simp] theorem devWrite_cnt (m : DevMode) (a : FmAddr) (data : List Byte) (s : State) : (devWrite m a data s).cnt = s.cnt := by unfold devWrite; split <;> rfl
@[simp] theorem devWrite_det (m : DevMode) (a : FmAddr) (data : List Byte) (s : State) : (devWrite m a data s).det = s.det := by unfold devWrite; split <;> rfl
@[simp] theorem devWrite_gen (m : DevMode) (a : FmAddr) (data : List Byte) (s : State) : (devWrite m a data s).gen = s.gen := by unfold devWrite; split <;> rfl
@[simp] theorem devWrite_loe (m : DevMode) (a : FmAddr) (data : List Byte) (s : State) : (devWrite m a data s).loe = s.loe := by unfold devWrite; split <;> rfl
@[simp] theorem devWrite_arb (m : DevMode) (a : FmAddr) (data : List Byte) (s : State) : (devWrite m a data s).arb = s.arb := by unfold devWrite; split <;> rfl
@[simp] theorem devWrite_irq (m : DevMode) (a : FmAddr) (data : List Byte) (s : State) : (devWrite m a data s).irq = s.irq := by unfold devWrite; split <;> rfl
@[simp] theorem devWrite_prof0 (m : DevMode) (a : FmAddr) (data : List Byte) (s : State) : (devWrite m a data s).prof0 = s.prof0 := by unfold devWrite; split <;> rfl
@[simp] theorem devWrite_prof1 (m : DevMode) (a : FmAddr) (data : List Byte) (s : State) : (devWrite m a data s).prof1 = s.prof1 := by unfold devWrite; split <;> rfl
@[simp] theorem devWrite_ports (m : DevMode) (a : FmAddr) (data : List Byte) (s : State) : (devWrite m a data s).ports = s.ports := by unfold devWrite; split <;> rfl
@[simp] theorem devWrite_trace (m : DevMode) (a : FmAddr) (data : List Byte) (s : State) : (devWrite m a data s).trace = s.trace := by unfold devWrite; split <;> rfl
@[simp] theorem devWrite_inputs (m : DevMode) (a : FmAddr) (data : List Byte) (s : State) : (devWrite m a data s).inputs = s.inputs := by unfold devWrite; split <;> rfl
@[simp] theorem devWrite_held (m : DevMode) (a : FmAddr) (data : List Byte) (s : State) : (devWrite m a data s).held = s.held := by unfold devWrite; split <;> rfl

@[simp] theorem devRead_cfg (b m : DevMode) (k : Nat) (a : FmAddr) (n : Nat) (s : State) : (devRead b m k a n s).cfg = s.cfg := by unfold devRead; split <;> rfl
@[simp] theorem devRead_ctrl (b m : DevMode) (k : Nat) (a : FmAddr) (n : Nat) (s : State) : (devRead b m k a n s).ctrl = s.ctrl := by unfold devRead; split <;> rfl
@[simp] theorem devRead_vstat (b m : DevMode) (k : Nat) (a : FmAddr) (n : Nat) (s : State) : (devRead b m k a n s).vstat = s.vstat := by unfold devRead; split <;> rfl
@[simp] theorem devRead_cnt (b m : DevMode) (k : Nat) (a : FmAddr) (n : Nat) (s : State) : (devRead b m k a n s).cnt = s.cnt := by unfold devRead; split <;> rfl
@[simp] theorem devRead_det (b m : DevMode) (k : Nat) (a : FmAddr) (n : Nat) (s : State) : (devRead b m k a n s).det = s.det := by unfold devRead; split <;> rfl
@[simp] theorem devRead_gen (b m : DevMode) (k : Nat) (a : FmAddr) (n : Nat) (s : State) : (devRead b m k a n s).gen = s.gen := by unfold devRead; split <;> rfl
@[simp] theorem devRead_loe (b m : DevMode) (k : Nat) (a : FmAddr) (n : Nat) (s : State) : (devRead b m k a n s).loe = s.loe := by unfold devRead; split <;> rfl
@[simp] theorem devRead_arb (b m : DevMode) (k : Nat) (a : FmAddr) (n : Nat) (s : State) : (devRead b m k a n s).arb = s.arb := by unfold devRead; split <;> rfl
@[simp] theorem devRead_irq (b m : DevMode) (k : Nat) (a : FmAddr) (n : Nat) (s : State) : (devRead b m k a n s).irq = s.irq := by unfold devRead; split <;> rfl
@[simp] theorem devRead_prof0 (b m : DevMode) (k : Nat) (a : FmAddr) (n : Nat) (s : State) : (devRead b m k a n s).prof0 = s.prof0 := by unfold devRead; split <;> rfl
@[simp] theorem devRead_prof1 (b m : DevMode) (k : Nat) (a : FmAddr) (n : Nat) (s : State) : (devRead b m k a n s).prof1 = s.prof1 := by unfold devRead; split <;> rfl
@[simp] theorem devRead_ports (b m : DevMode) (k : Nat) (a : FmAddr) (n : Nat) (s : State) : (devRead b m k a n s).ports = s.ports := by unfold devRead; split <;> rfl
@[simp] theorem devRead_trace (b m : DevMode) (k : Nat) (a : FmAddr) (n : Nat) (s : State) : (devRead b m k a n s).trace = s.trace := by unfold devRead; split <;> rfl
@[simp] theorem devRead_inputs (b m : DevMode) (k : Nat) (a : FmAddr) (n : Nat) (s : State) : (devRead b m k a n s).inputs = s.inputs := by unfold devRead; split <;> rfl
@[simp] theorem devRead_held (b m : DevMode) (k : Nat) (a : FmAddr) (n : Nat) (s : State) : (devRead b m k a n s).held = s.held := by unfold devRead; split <;> rfl

@[simp] theorem pushFrame_cfg (r : WireRec) (s : State) : (pushFrame r s).cfg = s.cfg := rfl
@[simp] theorem pushFrame_ctrl (r : WireRec) (s : State) : (pushFrame r s).ctrl = s.ctrl := rfl
@[simp] theorem pushFrame_vstat (r : WireRec) (s : State) : (pushFrame r s).vstat = s.vstat := rfl
@[simp] theorem pushFrame_cnt (r : WireRec) (s : State) : (pushFrame r s).cnt = s.cnt := rfl
@[simp] theorem pushFrame_det (r : WireRec) (s : State) : (pushFrame r s).det = s.det := rfl
@[simp] theorem pushFrame_gen (r : WireRec) (s : State) : (pushFrame r s).gen = s.gen := rfl
@[simp] theorem pushFrame_loe (r : WireRec) (s : State) : (pushFrame r s).loe = s.loe := rfl
@[simp] theorem pushFrame_arb (r : WireRec) (s : State) : (pushFrame r s).arb = s.arb := rfl
@[simp] theorem pushFrame_irq (r : WireRec) (s : State) : (pushFrame r s).irq = s.irq := rfl
@[simp] theorem pushFrame_prof0 (r : WireRec) (s : State) : (pushFrame r s).prof0 = s.prof0 := rfl
@[simp] theorem pushFrame_prof1 (r : WireRec) (s : State) : (pushFrame r s).prof1 = s.prof1 := rfl
@[simp] theorem pushFrame_dev (r : WireRec) (s : State) : (pushFrame r s).dev = s.dev := rfl
@[simp] theorem pushFrame_ports (r : WireRec) (s : State) : (pushFrame r s).ports = s.ports := rfl
@[simp] theorem pushFrame_sched (r : WireRec) (s : State) : (pushFrame r s).sched = s.sched := rfl
@[simp] theorem pushFrame_inputs (r : WireRec) (s : State) : (pushFrame r s).inputs = s.inputs := rfl
@[simp] theorem pushFrame_held (r : WireRec) (s : State) : (pushFrame r s).held = s.held := rfl

@[simp] theorem sendFrames_cfg (t : Nat) (l : List Frame) (s : State) : (sendFrames t l s).cfg = s.cfg := by
  induction l generalizing t s with
  | nil => rfl
  | cons g rest ih => simp [sendFrames, ih]
@[simp] theorem sendFrames_ctrl (t : Nat) (l : List Frame) (s : State) : (sendFrames t l s).ctrl = s.ctrl := by
  induction l generalizing t s with
  | nil => rfl
  | cons g rest ih => simp [sendFrames, ih]
@[simp] theorem sendFrames_vstat (t : Nat) (l : List Frame) (s : State) : (sendFrames t l s).vstat = s.vstat := by
  induction l generalizing t s with
  | nil => rfl
  | cons g rest ih => simp [sendFrames, ih]
@[simp] theorem sendFrames_cnt (t : Nat) (l : List Frame) (s : State) : (sendFrames t l s).cnt = s.cnt := by
  induction l generalizing t s with
  | nil => rfl
  | cons g rest ih => simp [sendFrames, ih]
@[simp] theorem sendFrames_det (t : Nat) (l : List Frame) (s : State) : (sendFrames t l s).det = s.det := by
  induction l generalizing t s with
  | nil => rfl
  | cons g rest ih => simp [sendFrames, ih]
@[simp] theorem sendFrames_gen (t : Nat) (l : List Frame) (s : State) : (sendFrames t l s).gen = s.gen := by
  induction l generalizing t s with
  | nil => rfl
  | cons g rest ih => simp [sendFrames, ih]
@[simp] theorem sendFrames_loe (t : Nat) (l : List Frame) (s : State) : (sendFrames t l s).loe = s.loe := by
  induction l generalizing t s with
  | nil => rfl
  | cons g rest ih => simp [sendFrames, ih]
@[simp] theorem sendFrames_arb (t : Nat) (l : List Frame) (s : State) : (sendFrames t l s).arb = s.arb := by
  induction l generalizing t s with
  | nil => rfl
  | cons g rest ih => simp [sendFrames, ih]
@[simp] theorem sendFrames_irq (t : Nat) (l : List Frame) (s : State) : (sendFrames t l s).irq = s.irq := by
  induction l generalizing t s with
  | nil => rfl
  | cons g rest ih => simp [sendFrames, ih]
@[simp] theorem sendFrames_prof0 (t : Nat) (l : List Frame) (s : State) : (sendFrames t l s).prof0 = s.prof0 := by
  induction l generalizing t s with
  | nil => rfl
  | cons g rest ih => simp [sendFrames, ih]
@[simp] theorem sendFrames_prof1 (t : Nat) (l : List Frame) (s : State) : (sendFrames t l s).prof1 = s.prof1 := by
  induction l generalizing t s with
  | nil => rfl
  | cons g rest ih => simp [sendFrames, ih]
@[simp] theorem sendFrames_dev (t : Nat) (l : List Frame) (s : State) : (sendFrames t l s).dev = s.dev := by
  induction l generalizing t s with
  | nil => rfl
  | cons g rest ih => simp [sendFrames, ih]
@[simp] theorem sendFrames_ports (t : Nat) (l : List Frame) (s : State) : (sendFrames t l s).ports = s.ports := by
  induction l generalizing t s with
  | nil => rfl
  | cons g rest ih => simp [sendFrames, ih]
@[simp] theorem sendFrames_sched (t : Nat) (l : List Frame) (s : State) : (sendFrames t l s).sched = s.sched := by
  induction l generalizing t s with
  | nil => rfl
  | cons g rest ih => simp [sendFrames, ih]
@[simp] theorem sendFrames_inputs (t : Nat) (l : List Frame) (s : State) : (sendFrames t l s).inputs = s.inputs := by
  induction l generalizing t s with
  | nil => rfl
  | cons g rest ih => simp [sendFrames, ih]
@[simp] theorem sendFrames_held (t : Nat) (l : List Frame) (s : State) : (sendFrames t l s).held = s.held := by
  induction l generalizing t s with
  | nil => rfl
  | cons g rest ih => simp [sendFrames, ih]

@[simp] theorem releaseWires_cfg (s : State) : (releaseWires s).cfg = s.cfg := rfl
@[simp] theorem releaseWires_ctrl (s : State) : (releaseWires s).ctrl = s.ctrl := rfl
@[simp] theorem releaseWires_vstat (s : State) : (releaseWires s).vstat = s.vstat := rfl
@[simp] theorem releaseWires_cnt (s : State) : (releaseWires s).cnt = s.cnt := rfl
@[simp] theorem releaseWires_det (s : State) : (releaseWires s).det = s.det := rfl
@[simp] theorem releaseWires_gen (s : State) : (releaseWires s).gen = s.gen := rfl
@[simp] theorem releaseWires_loe (s : State) : (releaseWires s).loe = s.loe := rfl
@[simp] theorem releaseWires_arb (s : State) : (releaseWires s).arb = s.arb := rfl
@[simp] theorem releaseWires_irq (s : State) : (releaseWires s).irq = s.irq := rfl
@[simp] theorem releaseWires_prof0 (s : State) : (releaseWires s).prof0 = s.prof0 := rfl
@[simp] theorem releaseWires_prof1 (s : State) : (releaseWires s).prof1 = s.prof1 := rfl
@[simp] theorem releaseWires_dev (s : State) : (releaseWires s).dev = s.dev := rfl
@[simp] theorem releaseWires_ports (s : State) : (releaseWires s).ports = s.ports := rfl
@[simp] theorem releaseWires_sched (s : State) : (releaseWires s).sched = s.sched := rfl
@[simp] theorem releaseWires_inputs (s : State) : (releaseWires s).inputs = s.inputs := rfl
@[simp] theorem releaseWires_held (s : State) : (releaseWires s).held = s.held := rfl

@[simp] theorem syncOutHigh_cfg (s : State) : (syncOutHigh s).cfg = s.cfg := rfl
@[simp] theorem syncOutHigh_ctrl (s : State) : (syncOutHigh s).ctrl = s.ctrl := rfl
@[simp] theorem syncOutHigh_vstat (s : State) : (syncOutHigh s).vstat = s.vstat := rfl
@[simp] theorem syncOutHigh_cnt (s : State) : (syncOutHigh s).cnt = s.cnt := rfl
@[simp] theorem syncOutHigh_det (s : State) : (syncOutHigh s).det = s.det := rfl
@[simp] theorem syncOutHigh_gen (s : State) : (syncOutHigh s).gen = s.gen := rfl
@[simp] theorem syncOutHigh_loe (s : State) : (syncOutHigh s).loe = s.loe := rfl
@[simp] theorem syncOutHigh_arb (s : State) : (syncOutHigh s).arb = s.arb := rfl
@[simp] theorem syncOutHigh_irq (s : State) : (syncOutHigh s).irq = s.irq := rfl
@[simp] theorem syncOutHigh_prof0 (s : State) : (syncOutHigh s).prof0 = s.prof0 := rfl
@[simp] theorem syncOutHigh_prof1 (s : State) : (syncOutHigh s).prof1 = s.prof1 := rfl
@[simp] theorem syncOutHigh_dev (s : State) : (syncOutHigh s).dev = s.dev := rfl
@[simp] theorem syncOutHigh_ports (s : State) : (syncOutHigh s).ports = s.ports := rfl
@[simp] theorem syncOutHigh_sched (s : State) : (syncOutHigh s).sched = s.sched := rfl
@[simp] theorem syncOutHigh_inputs (s : State) : (syncOutHigh s).inputs = s.inputs := rfl
@[simp] theorem syncOutHigh_held (s : State) : (syncOutHigh s).held = s.held := rfl

@[simp] theorem syncPulses_cfg (s : State) : (syncPulses s).cfg = s.cfg := rfl
@[simp] theorem syncPulses_ctrl (s : State) : (syncPulses s).ctrl = s.ctrl := rfl
@[simp] theorem syncPulses_vstat (s : State) : (syncPulses s).vstat = s.vstat := rfl
@[simp] theorem syncPulses_cnt (s : State) : (syncPulses s).cnt = s.cnt := rfl
@[simp] theorem syncPulses_det (s : State) : (syncPulses s).det = s.det := rfl
@[simp] theorem syncPulses_gen (s : State) : (syncPulses s).gen = s.gen := rfl
@[simp] theorem syncPulses_loe (s : State) : (syncPulses s).loe = s.loe := rfl
@[simp] theorem syncPulses_arb (s : State) : (syncPulses s).arb = s.arb := rfl
@[simp] theorem syncPulses_irq (s : State) : (syncPulses s).irq = s.irq := rfl
@[simp] theorem syncPulses_prof0 (s : State) : (syncPulses s).prof0 = s.prof0 := rfl
@[simp] theorem syncPulses_prof1 (s : State) : (syncPulses s).prof1 = s.prof1 := rfl
@[simp] theorem syncPulses_dev (s : State) : (syncPulses s).dev = s.dev := rfl
@[simp] theorem syncPulses_ports (s : State) : (syncPulses s).ports = s.ports := rfl
@[simp] theorem syncPulses_sched (s : State) : (syncPulses s).sched = s.sched := rfl
@[simp] theorem syncPulses_inputs (s : State) : (syncPulses s).inputs = s.inputs := rfl
@[simp] theorem syncPulses_held (s : State) : (syncPulses s).held = s.held := rfl

@[simp] theorem startStream_cfg (s : State) : (startStream s).cfg = s.cfg := rfl
@[simp] theorem startStream_ctrl (s : State) : (startStream s).ctrl = s.ctrl := rfl
@[simp] theorem startStream_vstat (s : State) : (startStream s).vstat = s.vstat := rfl
@[simp] theorem startStream_cnt (s : State) : (startStream s).cnt = s.cnt := rfl
@[simp] theorem startStream_det (s : State) : (startStream s).det = s.det := rfl
@[simp] theorem startStream_gen (s : State) : (startStream s).gen = s.gen := rfl
@[simp] theorem startStream_arb (s : State) : (startStream s).arb = s.arb := rfl
@[simp] theorem startStream_irq (s : State) : (startStream s).irq = s.irq := rfl
@[simp] theorem startStream_prof0 (s : State) : (startStream s).prof0 = s.prof0 := rfl
@[simp] theorem startStream_prof1 (s : State) : (startStream s).prof1 = s.prof1 := rfl
@[simp] theorem startStream_dev (s : State) : (startStream s).dev = s.dev := rfl
@[simp] theorem startStream_inputs (s : State) : (startStream s).inputs = s.inputs := rfl
@[simp] theorem startStream_held (s : State) : (startStream s).held = s.held := rfl

@[simp] theorem stopStream_cfg (n : Nat) (s : State) : (stopStream n s).cfg = s.cfg := rfl
@[simp] theorem stopStream_ctrl (n : Nat) (s : State) : (stopStream n s).ctrl = s.ctrl := rfl
@[simp] theorem stopStream_vstat (n : Nat) (s : State) : (stopStream n s).vstat = s.vstat := rfl
@[simp] theorem stopStream_cnt (n : Nat) (s : State) : (stopStream n s).cnt = s.cnt := rfl
@[simp] theorem stopStream_det (n : Nat) (s : State) : (stopStream n s).det = s.det := rfl
@[simp] theorem stopStream_gen (n : Nat) (s : State) : (stopStream n s).gen = s.gen := rfl
@[simp] theorem stopStream_arb (n : Nat) (s : State) : (stopStream n s).arb = s.arb := rfl
@[simp] theorem stopStream_irq (n : Nat) (s : State) : (stopStream n s).irq = s.irq := rfl
@[simp] theorem stopStream_prof0 (n : Nat) (s : State) : (stopStream n s).prof0 = s.prof0 := rfl
@[simp] theorem stopStream_prof1 (n : Nat) (s : State) : (stopStream n s).prof1 = s.prof1 := rfl
@[simp] theorem stopStream_dev (n : Nat) (s : State) : (stopStream n s).dev = s.dev := rfl
@[simp] theorem stopStream_sched (n : Nat) (s : State) : (stopStream n s).sched = s.sched := rfl
@[simp] theorem stopStream_inputs (n : Nat) (s : State) : (stopStream n s).inputs = s.inputs := rfl
@[simp] theorem stopStream_held (n : Nat) (s : State) : (stopStream n s).held = s.held := rfl

@[simp] theorem returnWord_cfg (a : RegAddr) (v : Word) (s : State) : (returnWord a v s).cfg = s.cfg := rfl
@[simp] theorem returnWord_ctrl (a : RegAddr) (v : Word) (s : State) : (returnWord a v s).ctrl = s.ctrl := rfl
@[simp] theorem returnWord_vstat (a : RegAddr) (v : Word) (s : State) : (returnWord a v s).vstat = s.vstat := rfl
@[simp] theorem returnWord_cnt (a : RegAddr) (v : Word) (s : State) : (returnWord a v s).cnt = s.cnt := rfl
@[simp] theorem returnWord_det (a : RegAddr) (v : Word) (s : State) : (returnWord a v s).det = s.det := rfl
@[simp] theorem returnWord_gen (a : RegAddr) (v : Word) (s : State) : (returnWord a v s).gen = s.gen := rfl
@[simp] theorem returnWord_loe (a : RegAddr) (v : Word) (s : State) : (returnWord a v s).loe = s.loe := rfl
@[simp] theorem returnWord_arb (a : RegAddr) (v : Word) (s : State) : (returnWord a v s).arb = s.arb := rfl
@[simp] theorem returnWord_irq (a : RegAddr) (v : Word) (s : State) : (returnWord a v s).irq = s.irq := rfl
@[simp] theorem returnWord_prof0 (a : RegAddr) (v : Word) (s : State) : (returnWord a v s).prof0 = s.prof0 := rfl
@[simp] theorem returnWord_prof1 (a : RegAddr) (v : Word) (s : State) : (returnWord a v s).prof1 = s.prof1 := rfl
@[simp] theorem returnWord_dev (a : RegAddr) (v : Word) (s : State) : (returnWord a v s).dev = s.dev := rfl
@[simp] theorem returnWord_sched (a : RegAddr) (v : Word) (s : State) : (returnWord a v s).sched = s.sched := rfl
@[simp] theorem returnWord_inputs (a : RegAddr) (v : Word) (s : State) : (returnWord a v s).inputs = s.inputs := rfl
@[simp] theorem returnWord_held (a : RegAddr) (v : Word) (s : State) : (returnWord a v s).held = s.held := rfl

@[simp] theorem putVstat_cfg (w : Word) (s : State) : (putVstat w s).cfg = s.cfg := rfl
@[simp] theorem putVstat_ctrl (w : Word) (s : State) : (putVstat w s).ctrl = s.ctrl := rfl
@[simp] theorem putVstat_cnt (w : Word) (s : State) : (putVstat w s).cnt = s.cnt := rfl
@[simp] theorem putVstat_det (w : Word) (s : State) : (putVstat w s).det = s.det := rfl
@[simp] theorem putVstat_gen (w : Word) (s : State) : (putVstat w s).gen = s.gen := rfl
@[simp] theorem putVstat_loe (w : Word) (s : State) : (putVstat w s).loe = s.loe := rfl
@[simp] theorem putVstat_arb (w : Word) (s : State) : (putVstat w s).arb = s.arb := rfl
@[simp] theorem putVstat_irq (w : Word) (s : State) : (putVstat w s).irq = s.irq := rfl
@[simp] theorem putVstat_prof0 (w : Word) (s : State) : (putVstat w s).prof0 = s.prof0 := rfl
@[simp] theorem putVstat_prof1 (w : Word) (s : State) : (putVstat w s).prof1 = s.prof1 := rfl
@[simp] theorem putVstat_dev (w : Word) (s : State) : (putVstat w s).dev = s.dev := rfl
@[simp] theorem putVstat_ports (w : Word) (s : State) : (putVstat w s).ports = s.ports := rfl
@[simp] theorem putVstat_sched (w : Word) (s : State) : (putVstat w s).sched = s.sched := rfl
@[simp] theorem putVstat_trace (w : Word) (s : State) : (putVstat w s).trace = s.trace := rfl
@[simp] theorem putVstat_inputs (w : Word) (s : State) : (putVstat w s).inputs = s.inputs := rfl
@[simp] theorem putVstat_held (w : Word) (s : State) : (putVstat w s).held = s.held := rfl

@[simp] theorem startGenerator_cfg (s : State) : (startGenerator s).cfg = s.cfg := rfl
@[simp] theorem startGenerator_ctrl (s : State) : (startGenerator s).ctrl = s.ctrl := rfl
@[simp] theorem startGenerator_vstat (s : State) : (startGenerator s).vstat = s.vstat := rfl
@[simp] theorem startGenerator_cnt (s : State) : (startGenerator s).cnt = s.cnt := rfl
@[simp] theorem startGenerator_det (s : State) : (startGenerator s).det = s.det := rfl
@[simp] theorem startGenerator_loe (s : State) : (startGenerator s).loe = s.loe := rfl
@[simp] theorem startGenerator_arb (s : State) : (startGenerator s).arb = s.arb := rfl
@[simp] theorem startGenerator_irq (s : State) : (startGenerator s).irq = s.irq := rfl
@[simp] theorem startGenerator_prof0 (s : State) : (startGenerator s).prof0 = s.prof0 := rfl
@[simp] theorem startGenerator_prof1 (s : State) : (startGenerator s).prof1 = s.prof1 := rfl
@[simp] theorem startGenerator_dev (s : State) : (startGenerator s).dev = s.dev := rfl
@[simp] theorem startGenerator_sched (s : State) : (startGenerator s).sched = s.sched := rfl
@[simp] theorem startGenerator_trace (s : State) : (startGenerator s).trace = s.trace := rfl
@[simp] theorem startGenerator_inputs (s : State) : (startGenerator s).inputs = s.inputs := rfl
@[simp] theorem startGenerator_held (s : State) : (startGenerator s).held = s.held := rfl

@[simp] theorem cutStream_cfg (b : Bool) (s : State) : (cutStream b s).cfg = s.cfg := by unfold cutStream; split <;> rfl
@[simp] theorem cutStream_ctrl (b : Bool) (s : State) : (cutStream b s).ctrl = s.ctrl := by unfold cutStream; split <;> rfl
@[simp] theorem cutStream_vstat (b : Bool) (s : State) : (cutStream b s).vstat = s.vstat := by unfold cutStream; split <;> rfl
@[simp] theorem cutStream_cnt (b : Bool) (s : State) : (cutStream b s).cnt = s.cnt := by unfold cutStream; split <;> rfl
@[simp] theorem cutStream_det (b : Bool) (s : State) : (cutStream b s).det = s.det := by unfold cutStream; split <;> rfl
@[simp] theorem cutStream_gen (b : Bool) (s : State) : (cutStream b s).gen = s.gen := by unfold cutStream; split <;> rfl
@[simp] theorem cutStream_arb (b : Bool) (s : State) : (cutStream b s).arb = s.arb := by unfold cutStream; split <;> rfl
@[simp] theorem cutStream_prof0 (b : Bool) (s : State) : (cutStream b s).prof0 = s.prof0 := by unfold cutStream; split <;> rfl
@[simp] theorem cutStream_prof1 (b : Bool) (s : State) : (cutStream b s).prof1 = s.prof1 := by unfold cutStream; split <;> rfl
@[simp] theorem cutStream_dev (b : Bool) (s : State) : (cutStream b s).dev = s.dev := by unfold cutStream; split <;> rfl
@[simp] theorem cutStream_sched (b : Bool) (s : State) : (cutStream b s).sched = s.sched := by unfold cutStream; split <;> rfl
@[simp] theorem cutStream_inputs (b : Bool) (s : State) : (cutStream b s).inputs = s.inputs := by unfold cutStream; split <;> rfl
@[simp] theorem cutStream_held (b : Bool) (s : State) : (cutStream b s).held = s.held := by unfold cutStream; split <;> rfl

@[simp] theorem quadToDual_cfg (s : State) : (quadToDual s).cfg = s.cfg := by simp [quadToDual]
@[simp] theorem quadToDual_ctrl (s : State) : (quadToDual s).ctrl = s.ctrl := by simp [quadToDual]
@[simp] theorem quadToDual_vstat (s : State) : (quadToDual s).vstat = s.vstat := by simp [quadToDual]
@[simp] theorem quadToDual_cnt (s : State) : (quadToDual s).cnt = s.cnt := by simp [quadToDual]
@[simp] theorem quadToDual_det (s : State) : (quadToDual s).det = s.det := by simp [quadToDual]
@[simp] theorem quadToDual_gen (s : State) : (quadToDual s).gen = s.gen := by simp [quadToDual]
@[simp] theorem quadToDual_loe (s : State) : (quadToDual s).loe = s.loe := by simp [quadToDual]
@[simp] theorem quadToDual_irq (s : State) : (quadToDual s).irq = s.irq := by simp [quadToDual]
@[simp] theorem quadToDual_prof0 (s : State) : (quadToDual s).prof0 = s.prof0 := by simp [quadToDual]
@[simp] theorem quadToDual_prof1 (s : State) : (quadToDual s).prof1 = s.prof1 := by simp [quadToDual]
@[simp] theorem quadToDual_ports (s : State) : (quadToDual s).ports = s.ports := by simp [quadToDual]
@[simp] theorem quadToDual_inputs (s : State) : (quadToDual s).inputs = s.inputs := by simp [quadToDual]
@[simp] theorem quadToDual_held (s : State) : (quadToDual s).held = s.held := by simp [quadToDual]

@[simp] theorem dualToQuad_cfg (s : State) : (dualToQuad s).cfg = s.cfg := by simp [dualToQuad]
@[simp] theorem dualToQuad_ctrl (s : State) : (dualToQuad s).ctrl = s.ctrl := by simp [dualToQuad]
@[simp] theorem dualToQuad_vstat (s : State) : (dualToQuad s).vstat = s.vstat := by simp [dualToQuad]
@[simp] theorem dualToQuad_cnt (s : State) : (dualToQuad s).cnt = s.cnt := by simp [dualToQuad]
@[simp] theorem dualToQuad_det (s : State) : (dualToQuad s).det = s.det := by simp [dualToQuad]
@[simp] theorem dualToQuad_gen (s : State) : (dualToQuad s).gen = s.gen := by simp [dualToQuad]
@[simp] theorem dualToQuad_loe (s : State) : (dualToQuad s).loe = s.loe := by simp [dualToQuad]
@[simp] theorem dualToQuad_irq (s : State) : (dualToQuad s).irq = s.irq := by simp [dualToQuad]
@[simp] theorem dualToQuad_prof0 (s : State) : (dualToQuad s).prof0 = s.prof0 := by simp [dualToQuad]
@[simp] theorem dualToQuad_prof1 (s : State) : (dualToQuad s).prof1 = s.prof1 := by simp [dualToQuad]
@[simp] theorem dualToQuad_ports (s : State) : (dualToQuad s).ports = s.ports := by simp [dualToQuad]
@[simp] theorem dualToQuad_inputs (s : State) : (dualToQuad s).inputs = s.inputs := by simp [dualToQuad]
@[simp] theorem dualToQuad_held (s : State) : (dualToQuad s).held = s.held := by simp [dualToQuad]

@[simp] theorem emitRow_cfg (s : State) : (emitRow s).cfg = s.cfg := by simp [emitRow]
@[simp] theorem emitRow_ctrl (s : State) : (emitRow s).ctrl = s.ctrl := by simp [emitRow]
@[simp] theorem emitRow_vstat (s : State) : (emitRow s).vstat = s.vstat := by simp [emitRow]
@[simp] theorem emitRow_cnt (s : State) : (emitRow s).cnt = s.cnt := by simp [emitRow]
@[simp] theorem emitRow_det (s : State) : (emitRow s).det = s.det := by simp [emitRow]
@[simp] theorem emitRow_gen (s : State) : (emitRow s).gen = s.gen := by simp [emitRow]
@[simp] theorem emitRow_arb (s : State) : (emitRow s).arb = s.arb := by simp [emitRow]
@[simp] theorem emitRow_irq (s : State) : (emitRow s).irq = s.irq := by simp [emitRow]
@[simp] theorem emitRow_prof0 (s : State) : (emitRow s).prof0 = s.prof0 := by simp [emitRow]
@[simp] theorem emitRow_prof1 (s : State) : (emitRow s).prof1 = s.prof1 := by simp [emitRow]
@[simp] theorem emitRow_inputs (s : State) : (emitRow s).inputs = s.inputs := by simp [emitRow]
@[simp] theorem emitRow_held (s : State) : (emitRow s).held = s.held := by simp [emitRow]

/-! ### What the operations write -/

@[simp] theorem raiseInt_pend (n : IntSrc) (s : State) : (raiseInt n s).irq.pend = s.irq.pend ||| intBit n := rfl
@[simp] theorem raiseInt_en (n : IntSrc) (s : State) : (raiseInt n s).irq.en = s.irq.en := rfl
@[simp] theorem cmdError_arb (c : ErrCode) (s : State) : (cmdError c s).arb = { s.arb with err := c } := rfl
@[simp] theorem devScramble_mem (s : State) : (devScramble s).dev.mem = [] := rfl
@[simp] theorem devRstio_dev (s : State) : (devRstio s).dev = { s.dev with mode := .single } := rfl
@[simp] theorem startStream_loe (s : State) : (startStream s).loe = { s.loe with streaming := true } := rfl
@[simp] theorem startStream_ports (s : State) : (startStream s).ports = { s.ports with pixValid := false } := rfl
@[simp] theorem stopStream_loe (n : Nat) (s : State) : (stopStream n s).loe = { s.loe with streaming := false } := rfl
@[simp] theorem stopStream_ports (n : Nat) (s : State) : (stopStream n s).ports = { s.ports with pixValid := false } := rfl
@[simp] theorem cutStream_loe (b : Bool) (s : State) : (cutStream b s).loe = { s.loe with streaming := false } := by
  unfold cutStream; split <;> rfl
@[simp] theorem cutStream_ports (b : Bool) (s : State) : (cutStream b s).ports = { s.ports with pixValid := false } := by
  unfold cutStream; split <;> rfl
@[simp] theorem quadToDual_arb (s : State) : (quadToDual s).arb = { s.arb with mode := .dual } := by
  simp [quadToDual]
@[simp] theorem dualToQuad_arb (s : State) : (dualToQuad s).arb = { s.arb with mode := .quad } := by
  simp [dualToQuad]

/-- The mode switch brings the device to DUAL from whichever mode it is in: RSTIO_Q, then EDIO_S. -/
@[simp] theorem quadToDual_dev (s : State) : (quadToDual s).dev = { s.dev with mode := .dual } := by
  simp [quadToDual, devEnter]
/-- The mode switch brings the device to QUAD from whichever mode it is in: RSTIO_D, then EQIO_S. -/
@[simp] theorem dualToQuad_dev (s : State) : (dualToQuad s).dev = { s.dev with mode := .quad } := by
  simp [dualToQuad, devEnter]
@[simp] theorem emitRow_loe (s : State) : (emitRow s).loe = { s.loe with streaming := true } := by
  simp [emitRow]
@[simp] theorem emitRow_ports (s : State) : (emitRow s).ports = { s.ports with pixValid := false } := by
  simp [emitRow]

end Sys2Proof.Machine
end

