-- ==== Sys2Proof/Laws/Frames.lean ====
section
/-! SUPPORT. For each composed operation (zones, sync events, transfers, register accesses), the parts of the state it
leaves alone. -/

namespace Sys2Proof.Machine

-- Elaborated one after another: hundreds of one-line lemmas at once would each take a thread and its stack.
set_option Elab.async false

@[simp] theorem setupZone_cfg (s : State) : (setupZone s).cfg = s.cfg := by unfold setupZone; split <;> rfl
@[simp] theorem setupZone_ctrl (s : State) : (setupZone s).ctrl = s.ctrl := by unfold setupZone; split <;> rfl
@[simp] theorem setupZone_vstat (s : State) : (setupZone s).vstat = s.vstat := by unfold setupZone; split <;> rfl
@[simp] theorem setupZone_cnt (s : State) : (setupZone s).cnt = s.cnt := by unfold setupZone; split <;> rfl
@[simp] theorem setupZone_det (s : State) : (setupZone s).det = s.det := by unfold setupZone; split <;> rfl
@[simp] theorem setupZone_gen (s : State) : (setupZone s).gen = s.gen := by unfold setupZone; split <;> rfl
@[simp] theorem setupZone_arb (s : State) : (setupZone s).arb = s.arb := by unfold setupZone; split <;> rfl
@[simp] theorem setupZone_prof0 (s : State) : (setupZone s).prof0 = s.prof0 := by unfold setupZone; split <;> rfl
@[simp] theorem setupZone_prof1 (s : State) : (setupZone s).prof1 = s.prof1 := by unfold setupZone; split <;> rfl
@[simp] theorem setupZone_dev (s : State) : (setupZone s).dev = s.dev := by unfold setupZone; split <;> rfl
@[simp] theorem setupZone_ports (s : State) : (setupZone s).ports = s.ports := by unfold setupZone; split <;> rfl
@[simp] theorem setupZone_sched (s : State) : (setupZone s).sched = s.sched := by unfold setupZone; split <;> rfl
@[simp] theorem setupZone_trace (s : State) : (setupZone s).trace = s.trace := by unfold setupZone; split <;> rfl
@[simp] theorem setupZone_inputs (s : State) : (setupZone s).inputs = s.inputs := by unfold setupZone; split <;> rfl
@[simp] theorem setupZone_held (s : State) : (setupZone s).held = s.held := by unfold setupZone; split <;> rfl

@[simp] theorem prerollStep_cfg (s : State) : (prerollStep s).cfg = s.cfg := by unfold prerollStep; split <;> simp
@[simp] theorem prerollStep_ctrl (s : State) : (prerollStep s).ctrl = s.ctrl := by unfold prerollStep; split <;> simp
@[simp] theorem prerollStep_vstat (s : State) : (prerollStep s).vstat = s.vstat := by unfold prerollStep; split <;> simp
@[simp] theorem prerollStep_cnt (s : State) : (prerollStep s).cnt = s.cnt := by unfold prerollStep; split <;> simp
@[simp] theorem prerollStep_det (s : State) : (prerollStep s).det = s.det := by unfold prerollStep; split <;> simp
@[simp] theorem prerollStep_gen (s : State) : (prerollStep s).gen = s.gen := by unfold prerollStep; split <;> simp
@[simp] theorem prerollStep_arb (s : State) : (prerollStep s).arb = s.arb := by unfold prerollStep; split <;> simp
@[simp] theorem prerollStep_prof0 (s : State) : (prerollStep s).prof0 = s.prof0 := by unfold prerollStep; split <;> simp
@[simp] theorem prerollStep_prof1 (s : State) : (prerollStep s).prof1 = s.prof1 := by unfold prerollStep; split <;> simp
@[simp] theorem prerollStep_dev (s : State) : (prerollStep s).dev = s.dev := by unfold prerollStep; split <;> simp
@[simp] theorem prerollStep_ports (s : State) : (prerollStep s).ports = s.ports := by unfold prerollStep; split <;> simp
@[simp] theorem prerollStep_sched (s : State) : (prerollStep s).sched = s.sched := by unfold prerollStep; split <;> simp
@[simp] theorem prerollStep_trace (s : State) : (prerollStep s).trace = s.trace := by unfold prerollStep; split <;> simp
@[simp] theorem prerollStep_inputs (s : State) : (prerollStep s).inputs = s.inputs := by unfold prerollStep; split <;> simp
@[simp] theorem prerollStep_held (s : State) : (prerollStep s).held = s.held := by unfold prerollStep; split <;> simp

@[simp] theorem teardown_cfg (b : Bool) (s : State) : (teardown b s).cfg = s.cfg := by unfold teardown; cases b <;> simp
@[simp] theorem teardown_ctrl (b : Bool) (s : State) : (teardown b s).ctrl = s.ctrl := by unfold teardown; cases b <;> simp
@[simp] theorem teardown_vstat (b : Bool) (s : State) : (teardown b s).vstat = s.vstat := by unfold teardown; cases b <;> simp
@[simp] theorem teardown_cnt (b : Bool) (s : State) : (teardown b s).cnt = s.cnt := by unfold teardown; cases b <;> simp
@[simp] theorem teardown_det (b : Bool) (s : State) : (teardown b s).det = s.det := by unfold teardown; cases b <;> simp
@[simp] theorem teardown_gen (b : Bool) (s : State) : (teardown b s).gen = s.gen := by unfold teardown; cases b <;> simp
@[simp] theorem teardown_prof0 (b : Bool) (s : State) : (teardown b s).prof0 = s.prof0 := by unfold teardown; cases b <;> simp
@[simp] theorem teardown_prof1 (b : Bool) (s : State) : (teardown b s).prof1 = s.prof1 := by unfold teardown; cases b <;> simp
@[simp] theorem teardown_ports (b : Bool) (s : State) : (teardown b s).ports = s.ports := by unfold teardown; cases b <;> simp
@[simp] theorem teardown_inputs (b : Bool) (s : State) : (teardown b s).inputs = s.inputs := by unfold teardown; cases b <;> simp
@[simp] theorem teardown_held (b : Bool) (s : State) : (teardown b s).held = s.held := by unfold teardown; cases b <;> simp

@[simp] theorem switchStep_cfg (s : State) : (switchStep s).cfg = s.cfg := by unfold switchStep; split <;> [skip; split] <;> simp
@[simp] theorem switchStep_ctrl (s : State) : (switchStep s).ctrl = s.ctrl := by unfold switchStep; split <;> [skip; split] <;> simp
@[simp] theorem switchStep_vstat (s : State) : (switchStep s).vstat = s.vstat := by unfold switchStep; split <;> [skip; split] <;> simp
@[simp] theorem switchStep_cnt (s : State) : (switchStep s).cnt = s.cnt := by unfold switchStep; split <;> [skip; split] <;> simp
@[simp] theorem switchStep_det (s : State) : (switchStep s).det = s.det := by unfold switchStep; split <;> [skip; split] <;> simp
@[simp] theorem switchStep_gen (s : State) : (switchStep s).gen = s.gen := by unfold switchStep; split <;> [skip; split] <;> simp
@[simp] theorem switchStep_prof0 (s : State) : (switchStep s).prof0 = s.prof0 := by unfold switchStep; split <;> [skip; split] <;> simp
@[simp] theorem switchStep_prof1 (s : State) : (switchStep s).prof1 = s.prof1 := by unfold switchStep; split <;> [skip; split] <;> simp
@[simp] theorem switchStep_ports (s : State) : (switchStep s).ports = s.ports := by unfold switchStep; split <;> [skip; split] <;> simp
@[simp] theorem switchStep_inputs (s : State) : (switchStep s).inputs = s.inputs := by unfold switchStep; split <;> [skip; split] <;> simp
@[simp] theorem switchStep_held (s : State) : (switchStep s).held = s.held := by unfold switchStep; split <;> [skip; split] <;> simp

@[simp] theorem activeStep_cfg (s : State) : (activeStep s).cfg = s.cfg := by unfold activeStep; split <;> simp
@[simp] theorem activeStep_ctrl (s : State) : (activeStep s).ctrl = s.ctrl := by unfold activeStep; split <;> simp
@[simp] theorem activeStep_vstat (s : State) : (activeStep s).vstat = s.vstat := by unfold activeStep; split <;> simp
@[simp] theorem activeStep_cnt (s : State) : (activeStep s).cnt = s.cnt := by unfold activeStep; split <;> simp
@[simp] theorem activeStep_det (s : State) : (activeStep s).det = s.det := by unfold activeStep; split <;> simp
@[simp] theorem activeStep_gen (s : State) : (activeStep s).gen = s.gen := by unfold activeStep; split <;> simp
@[simp] theorem activeStep_prof0 (s : State) : (activeStep s).prof0 = s.prof0 := by unfold activeStep; split <;> simp
@[simp] theorem activeStep_prof1 (s : State) : (activeStep s).prof1 = s.prof1 := by unfold activeStep; split <;> simp
@[simp] theorem activeStep_inputs (s : State) : (activeStep s).inputs = s.inputs := by unfold activeStep; split <;> simp
@[simp] theorem activeStep_held (s : State) : (activeStep s).held = s.held := by unfold activeStep; split <;> simp

@[simp] theorem abortTeardown_cfg (s : State) : (abortTeardown s).cfg = s.cfg := by unfold abortTeardown; dsimp only; split <;> split <;> simp
@[simp] theorem abortTeardown_ctrl (s : State) : (abortTeardown s).ctrl = s.ctrl := by unfold abortTeardown; dsimp only; split <;> split <;> simp
@[simp] theorem abortTeardown_vstat (s : State) : (abortTeardown s).vstat = s.vstat := by unfold abortTeardown; dsimp only; split <;> split <;> simp
@[simp] theorem abortTeardown_cnt (s : State) : (abortTeardown s).cnt = s.cnt := by unfold abortTeardown; dsimp only; split <;> split <;> simp
@[simp] theorem abortTeardown_det (s : State) : (abortTeardown s).det = s.det := by unfold abortTeardown; dsimp only; split <;> split <;> simp
@[simp] theorem abortTeardown_gen (s : State) : (abortTeardown s).gen = s.gen := by unfold abortTeardown; dsimp only; split <;> split <;> simp
@[simp] theorem abortTeardown_prof0 (s : State) : (abortTeardown s).prof0 = s.prof0 := by unfold abortTeardown; dsimp only; split <;> split <;> simp
@[simp] theorem abortTeardown_prof1 (s : State) : (abortTeardown s).prof1 = s.prof1 := by unfold abortTeardown; dsimp only; split <;> split <;> simp
@[simp] theorem abortTeardown_inputs (s : State) : (abortTeardown s).inputs = s.inputs := by unfold abortTeardown; dsimp only; split <;> split <;> simp
@[simp] theorem abortTeardown_held (s : State) : (abortTeardown s).held = s.held := by unfold abortTeardown; dsimp only; split <;> split <;> simp

@[simp] theorem zoneStep_cfg (z : Zone) (s : State) : (zoneStep z s).cfg = s.cfg := by cases z <;> simp [zoneStep]
@[simp] theorem zoneStep_ctrl (z : Zone) (s : State) : (zoneStep z s).ctrl = s.ctrl := by cases z <;> simp [zoneStep]
@[simp] theorem zoneStep_vstat (z : Zone) (s : State) : (zoneStep z s).vstat = s.vstat := by cases z <;> simp [zoneStep]
@[simp] theorem zoneStep_cnt (z : Zone) (s : State) : (zoneStep z s).cnt = s.cnt := by cases z <;> simp [zoneStep]
@[simp] theorem zoneStep_det (z : Zone) (s : State) : (zoneStep z s).det = s.det := by cases z <;> simp [zoneStep]
@[simp] theorem zoneStep_gen (z : Zone) (s : State) : (zoneStep z s).gen = s.gen := by cases z <;> simp [zoneStep]
@[simp] theorem zoneStep_prof0 (z : Zone) (s : State) : (zoneStep z s).prof0 = s.prof0 := by cases z <;> simp [zoneStep]
@[simp] theorem zoneStep_prof1 (z : Zone) (s : State) : (zoneStep z s).prof1 = s.prof1 := by cases z <;> simp [zoneStep]
@[simp] theorem zoneStep_inputs (z : Zone) (s : State) : (zoneStep z s).inputs = s.inputs := by cases z <;> simp [zoneStep]
@[simp] theorem zoneStep_held (z : Zone) (s : State) : (zoneStep z s).held = s.held := by cases z <;> simp [zoneStep]

@[simp] theorem loeStepIn_cfg (z : Zone) (s : State) : (loeStepIn z s).cfg = s.cfg := by unfold loeStepIn; split <;> [split; skip] <;> simp
@[simp] theorem loeStepIn_ctrl (z : Zone) (s : State) : (loeStepIn z s).ctrl = s.ctrl := by unfold loeStepIn; split <;> [split; skip] <;> simp
@[simp] theorem loeStepIn_vstat (z : Zone) (s : State) : (loeStepIn z s).vstat = s.vstat := by unfold loeStepIn; split <;> [split; skip] <;> simp
@[simp] theorem loeStepIn_cnt (z : Zone) (s : State) : (loeStepIn z s).cnt = s.cnt := by unfold loeStepIn; split <;> [split; skip] <;> simp
@[simp] theorem loeStepIn_det (z : Zone) (s : State) : (loeStepIn z s).det = s.det := by unfold loeStepIn; split <;> [split; skip] <;> simp
@[simp] theorem loeStepIn_gen (z : Zone) (s : State) : (loeStepIn z s).gen = s.gen := by unfold loeStepIn; split <;> [split; skip] <;> simp
@[simp] theorem loeStepIn_prof0 (z : Zone) (s : State) : (loeStepIn z s).prof0 = s.prof0 := by unfold loeStepIn; split <;> [split; skip] <;> simp
@[simp] theorem loeStepIn_prof1 (z : Zone) (s : State) : (loeStepIn z s).prof1 = s.prof1 := by unfold loeStepIn; split <;> [split; skip] <;> simp
@[simp] theorem loeStepIn_inputs (z : Zone) (s : State) : (loeStepIn z s).inputs = s.inputs := by unfold loeStepIn; split <;> [split; skip] <;> simp
@[simp] theorem loeStepIn_held (z : Zone) (s : State) : (loeStepIn z s).held = s.held := by unfold loeStepIn; split <;> [split; skip] <;> simp

@[simp] theorem loeStep_cfg (s : State) : (loeStep s).cfg = s.cfg := by simp [loeStep]
@[simp] theorem loeStep_ctrl (s : State) : (loeStep s).ctrl = s.ctrl := by simp [loeStep]
@[simp] theorem loeStep_vstat (s : State) : (loeStep s).vstat = s.vstat := by simp [loeStep]
@[simp] theorem loeStep_cnt (s : State) : (loeStep s).cnt = s.cnt := by simp [loeStep]
@[simp] theorem loeStep_det (s : State) : (loeStep s).det = s.det := by simp [loeStep]
@[simp] theorem loeStep_gen (s : State) : (loeStep s).gen = s.gen := by simp [loeStep]
@[simp] theorem loeStep_prof0 (s : State) : (loeStep s).prof0 = s.prof0 := by simp [loeStep]
@[simp] theorem loeStep_prof1 (s : State) : (loeStep s).prof1 = s.prof1 := by simp [loeStep]
@[simp] theorem loeStep_inputs (s : State) : (loeStep s).inputs = s.inputs := by simp [loeStep]
@[simp] theorem loeStep_held (s : State) : (loeStep s).held = s.held := by simp [loeStep]

@[simp] theorem lineEvent_cfg (s : State) : (lineEvent s).cfg = s.cfg := by simp [lineEvent]
@[simp] theorem lineEvent_ctrl (s : State) : (lineEvent s).ctrl = s.ctrl := by simp [lineEvent]
@[simp] theorem lineEvent_vstat (s : State) : (lineEvent s).vstat = s.vstat := by simp [lineEvent]
@[simp] theorem lineEvent_det (s : State) : (lineEvent s).det = s.det := by simp [lineEvent]
@[simp] theorem lineEvent_gen (s : State) : (lineEvent s).gen = s.gen := by simp [lineEvent]
@[simp] theorem lineEvent_prof0 (s : State) : (lineEvent s).prof0 = s.prof0 := by simp [lineEvent]
@[simp] theorem lineEvent_prof1 (s : State) : (lineEvent s).prof1 = s.prof1 := by simp [lineEvent]
@[simp] theorem lineEvent_inputs (s : State) : (lineEvent s).inputs = s.inputs := by simp [lineEvent]
@[simp] theorem lineEvent_held (s : State) : (lineEvent s).held = s.held := by simp [lineEvent]

@[simp] theorem genuineSync_cfg (b : Bool) (s : State) : (genuineSync b s).cfg = s.cfg := by unfold genuineSync; dsimp only; split <;> rfl
@[simp] theorem genuineSync_ctrl (b : Bool) (s : State) : (genuineSync b s).ctrl = s.ctrl := by unfold genuineSync; dsimp only; split <;> rfl
@[simp] theorem genuineSync_det (b : Bool) (s : State) : (genuineSync b s).det = s.det := by unfold genuineSync; dsimp only; split <;> rfl
@[simp] theorem genuineSync_loe (b : Bool) (s : State) : (genuineSync b s).loe = s.loe := by unfold genuineSync; dsimp only; split <;> rfl
@[simp] theorem genuineSync_arb (b : Bool) (s : State) : (genuineSync b s).arb = s.arb := by unfold genuineSync; dsimp only; split <;> rfl
@[simp] theorem genuineSync_prof0 (b : Bool) (s : State) : (genuineSync b s).prof0 = s.prof0 := by unfold genuineSync; dsimp only; split <;> rfl
@[simp] theorem genuineSync_prof1 (b : Bool) (s : State) : (genuineSync b s).prof1 = s.prof1 := by unfold genuineSync; dsimp only; split <;> rfl
@[simp] theorem genuineSync_dev (b : Bool) (s : State) : (genuineSync b s).dev = s.dev := by unfold genuineSync; dsimp only; split <;> rfl
@[simp] theorem genuineSync_sched (b : Bool) (s : State) : (genuineSync b s).sched = s.sched := by unfold genuineSync; dsimp only; split <;> rfl
@[simp] theorem genuineSync_inputs (b : Bool) (s : State) : (genuineSync b s).inputs = s.inputs := by unfold genuineSync; dsimp only; split <;> rfl
@[simp] theorem genuineSync_held (b : Bool) (s : State) : (genuineSync b s).held = s.held := by unfold genuineSync; dsimp only; split <;> rfl

@[simp] theorem fieldStart_cfg (s : State) : (fieldStart s).cfg = s.cfg := by unfold fieldStart; dsimp only; split <;> simp
@[simp] theorem fieldStart_ctrl (s : State) : (fieldStart s).ctrl = s.ctrl := by unfold fieldStart; dsimp only; split <;> simp
@[simp] theorem fieldStart_vstat (s : State) : (fieldStart s).vstat = s.vstat := by unfold fieldStart; dsimp only; split <;> simp
@[simp] theorem fieldStart_det (s : State) : (fieldStart s).det = s.det := by unfold fieldStart; dsimp only; split <;> simp
@[simp] theorem fieldStart_gen (s : State) : (fieldStart s).gen = s.gen := by unfold fieldStart; dsimp only; split <;> simp
@[simp] theorem fieldStart_prof0 (s : State) : (fieldStart s).prof0 = s.prof0 := by unfold fieldStart; dsimp only; split <;> simp
@[simp] theorem fieldStart_prof1 (s : State) : (fieldStart s).prof1 = s.prof1 := by unfold fieldStart; dsimp only; split <;> simp
@[simp] theorem fieldStart_inputs (s : State) : (fieldStart s).inputs = s.inputs := by unfold fieldStart; dsimp only; split <;> simp
@[simp] theorem fieldStart_held (s : State) : (fieldStart s).held = s.held := by unfold fieldStart; dsimp only; split <;> simp

@[simp] theorem verticalSync_cfg (k : SyncKind) (x : Bool) (s : State) : (verticalSync k x s).cfg = s.cfg := by unfold verticalSync; cases k <;> simp
@[simp] theorem verticalSync_ctrl (k : SyncKind) (x : Bool) (s : State) : (verticalSync k x s).ctrl = s.ctrl := by unfold verticalSync; cases k <;> simp
@[simp] theorem verticalSync_det (k : SyncKind) (x : Bool) (s : State) : (verticalSync k x s).det = s.det := by unfold verticalSync; cases k <;> simp
@[simp] theorem verticalSync_prof0 (k : SyncKind) (x : Bool) (s : State) : (verticalSync k x s).prof0 = s.prof0 := by unfold verticalSync; cases k <;> simp
@[simp] theorem verticalSync_prof1 (k : SyncKind) (x : Bool) (s : State) : (verticalSync k x s).prof1 = s.prof1 := by unfold verticalSync; cases k <;> simp
@[simp] theorem verticalSync_inputs (k : SyncKind) (x : Bool) (s : State) : (verticalSync k x s).inputs = s.inputs := by unfold verticalSync; cases k <;> simp
@[simp] theorem verticalSync_held (k : SyncKind) (x : Bool) (s : State) : (verticalSync k x s).held = s.held := by unfold verticalSync; cases k <;> simp

@[simp] theorem firstGenLine_cfg (s : State) : (firstGenLine s).cfg = s.cfg := by simp [firstGenLine]
@[simp] theorem firstGenLine_ctrl (s : State) : (firstGenLine s).ctrl = s.ctrl := by simp [firstGenLine]
@[simp] theorem firstGenLine_det (s : State) : (firstGenLine s).det = s.det := by simp [firstGenLine]
@[simp] theorem firstGenLine_prof0 (s : State) : (firstGenLine s).prof0 = s.prof0 := by simp [firstGenLine]
@[simp] theorem firstGenLine_prof1 (s : State) : (firstGenLine s).prof1 = s.prof1 := by simp [firstGenLine]
@[simp] theorem firstGenLine_inputs (s : State) : (firstGenLine s).inputs = s.inputs := by simp [firstGenLine]
@[simp] theorem firstGenLine_held (s : State) : (firstGenLine s).held = s.held := by simp [firstGenLine]

@[simp] theorem timeoutSwitch_cfg (s : State) : (timeoutSwitch s).cfg = s.cfg := by simp [timeoutSwitch]
@[simp] theorem timeoutSwitch_ctrl (s : State) : (timeoutSwitch s).ctrl = s.ctrl := by simp [timeoutSwitch]
@[simp] theorem timeoutSwitch_det (s : State) : (timeoutSwitch s).det = s.det := by simp [timeoutSwitch]
@[simp] theorem timeoutSwitch_prof0 (s : State) : (timeoutSwitch s).prof0 = s.prof0 := by simp [timeoutSwitch]
@[simp] theorem timeoutSwitch_prof1 (s : State) : (timeoutSwitch s).prof1 = s.prof1 := by simp [timeoutSwitch]
@[simp] theorem timeoutSwitch_inputs (s : State) : (timeoutSwitch s).inputs = s.inputs := by simp [timeoutSwitch]
@[simp] theorem timeoutSwitch_held (s : State) : (timeoutSwitch s).held = s.held := by simp [timeoutSwitch]

@[simp] theorem restartGenerator_cfg (s : State) : (restartGenerator s).cfg = s.cfg := by simp [restartGenerator]
@[simp] theorem restartGenerator_ctrl (s : State) : (restartGenerator s).ctrl = s.ctrl := by simp [restartGenerator]
@[simp] theorem restartGenerator_det (s : State) : (restartGenerator s).det = s.det := by simp [restartGenerator]
@[simp] theorem restartGenerator_prof0 (s : State) : (restartGenerator s).prof0 = s.prof0 := by simp [restartGenerator]
@[simp] theorem restartGenerator_prof1 (s : State) : (restartGenerator s).prof1 = s.prof1 := by simp [restartGenerator]
@[simp] theorem restartGenerator_inputs (s : State) : (restartGenerator s).inputs = s.inputs := by simp [restartGenerator]
@[simp] theorem restartGenerator_held (s : State) : (restartGenerator s).held = s.held := by simp [restartGenerator]

@[simp] theorem genLineEvent_cfg (s : State) : (genLineEvent s).cfg = s.cfg := by
  unfold genLineEvent; dsimp only; split
  · simp only [syncPulses_cfg, lineEvent_cfg]; split <;> [skip; split] <;> simp
  · rfl
@[simp] theorem genLineEvent_ctrl (s : State) : (genLineEvent s).ctrl = s.ctrl := by
  unfold genLineEvent; dsimp only; split
  · simp only [syncPulses_ctrl, lineEvent_ctrl]; split <;> [skip; split] <;> simp
  · rfl
@[simp] theorem genLineEvent_det (s : State) : (genLineEvent s).det = s.det := by
  unfold genLineEvent; dsimp only; split
  · simp only [syncPulses_det, lineEvent_det]; split <;> [skip; split] <;> simp
  · rfl
@[simp] theorem genLineEvent_prof0 (s : State) : (genLineEvent s).prof0 = s.prof0 := by
  unfold genLineEvent; dsimp only; split
  · simp only [syncPulses_prof0, lineEvent_prof0]; split <;> [skip; split] <;> simp
  · rfl
@[simp] theorem genLineEvent_prof1 (s : State) : (genLineEvent s).prof1 = s.prof1 := by
  unfold genLineEvent; dsimp only; split
  · simp only [syncPulses_prof1, lineEvent_prof1]; split <;> [skip; split] <;> simp
  · rfl
@[simp] theorem genLineEvent_inputs (s : State) : (genLineEvent s).inputs = s.inputs := by
  unfold genLineEvent; dsimp only; split
  · simp only [syncPulses_inputs, lineEvent_inputs]; split <;> [skip; split] <;> simp
  · rfl
@[simp] theorem genLineEvent_held (s : State) : (genLineEvent s).held = s.held := by
  unfold genLineEvent; dsimp only; split
  · simp only [syncPulses_held, lineEvent_held]; split <;> [skip; split] <;> simp
  · rfl

@[simp] theorem refTickEvent_cfg (s : State) : (refTickEvent s).cfg = s.cfg := by unfold refTickEvent; dsimp only; split <;> [split; skip] <;> simp
@[simp] theorem refTickEvent_ctrl (s : State) : (refTickEvent s).ctrl = s.ctrl := by unfold refTickEvent; dsimp only; split <;> [split; skip] <;> simp
@[simp] theorem refTickEvent_det (s : State) : (refTickEvent s).det = s.det := by unfold refTickEvent; dsimp only; split <;> [split; skip] <;> simp
@[simp] theorem refTickEvent_prof0 (s : State) : (refTickEvent s).prof0 = s.prof0 := by unfold refTickEvent; dsimp only; split <;> [split; skip] <;> simp
@[simp] theorem refTickEvent_prof1 (s : State) : (refTickEvent s).prof1 = s.prof1 := by unfold refTickEvent; dsimp only; split <;> [split; skip] <;> simp
@[simp] theorem refTickEvent_inputs (s : State) : (refTickEvent s).inputs = s.inputs := by unfold refTickEvent; dsimp only; split <;> [split; skip] <;> simp
@[simp] theorem refTickEvent_held (s : State) : (refTickEvent s).held = s.held := by unfold refTickEvent; dsimp only; split <;> [split; skip] <;> simp

@[simp] theorem csyncEvent_cfg (s : State) : (csyncEvent s).cfg = s.cfg := by unfold csyncEvent; dsimp only; split <;> [(split <;> [skip; split]); skip] <;> simp
@[simp] theorem csyncEvent_ctrl (s : State) : (csyncEvent s).ctrl = s.ctrl := by unfold csyncEvent; dsimp only; split <;> [(split <;> [skip; split]); skip] <;> simp
@[simp] theorem csyncEvent_vstat (s : State) : (csyncEvent s).vstat = s.vstat := by unfold csyncEvent; dsimp only; split <;> [(split <;> [skip; split]); skip] <;> simp
@[simp] theorem csyncEvent_gen (s : State) : (csyncEvent s).gen = s.gen := by unfold csyncEvent; dsimp only; split <;> [(split <;> [skip; split]); skip] <;> simp
@[simp] theorem csyncEvent_prof0 (s : State) : (csyncEvent s).prof0 = s.prof0 := by unfold csyncEvent; dsimp only; split <;> [(split <;> [skip; split]); skip] <;> simp
@[simp] theorem csyncEvent_prof1 (s : State) : (csyncEvent s).prof1 = s.prof1 := by unfold csyncEvent; dsimp only; split <;> [(split <;> [skip; split]); skip] <;> simp
@[simp] theorem csyncEvent_inputs (s : State) : (csyncEvent s).inputs = s.inputs := by unfold csyncEvent; dsimp only; split <;> [(split <;> [skip; split]); skip] <;> simp
@[simp] theorem csyncEvent_held (s : State) : (csyncEvent s).held = s.held := by unfold csyncEvent; dsimp only; split <;> [(split <;> [skip; split]); skip] <;> simp

@[simp] theorem vsyncEvent_cfg (s : State) : (vsyncEvent s).cfg = s.cfg := by unfold vsyncEvent; split <;> simp
@[simp] theorem vsyncEvent_ctrl (s : State) : (vsyncEvent s).ctrl = s.ctrl := by unfold vsyncEvent; split <;> simp
@[simp] theorem vsyncEvent_det (s : State) : (vsyncEvent s).det = s.det := by unfold vsyncEvent; split <;> simp
@[simp] theorem vsyncEvent_prof0 (s : State) : (vsyncEvent s).prof0 = s.prof0 := by unfold vsyncEvent; split <;> simp
@[simp] theorem vsyncEvent_prof1 (s : State) : (vsyncEvent s).prof1 = s.prof1 := by unfold vsyncEvent; split <;> simp
@[simp] theorem vsyncEvent_inputs (s : State) : (vsyncEvent s).inputs = s.inputs := by unfold vsyncEvent; split <;> simp
@[simp] theorem vsyncEvent_held (s : State) : (vsyncEvent s).held = s.held := by unfold vsyncEvent; split <;> simp

@[simp] theorem classify_cfg (d : Nat) (s : State) : (classify d s).cfg = s.cfg := by unfold classify; split <;> rfl
@[simp] theorem classify_ctrl (d : Nat) (s : State) : (classify d s).ctrl = s.ctrl := by unfold classify; split <;> rfl
@[simp] theorem classify_vstat (d : Nat) (s : State) : (classify d s).vstat = s.vstat := by unfold classify; split <;> rfl
@[simp] theorem classify_cnt (d : Nat) (s : State) : (classify d s).cnt = s.cnt := by unfold classify; split <;> rfl
@[simp] theorem classify_gen (d : Nat) (s : State) : (classify d s).gen = s.gen := by unfold classify; split <;> rfl
@[simp] theorem classify_loe (d : Nat) (s : State) : (classify d s).loe = s.loe := by unfold classify; split <;> rfl
@[simp] theorem classify_arb (d : Nat) (s : State) : (classify d s).arb = s.arb := by unfold classify; split <;> rfl
@[simp] theorem classify_irq (d : Nat) (s : State) : (classify d s).irq = s.irq := by unfold classify; split <;> rfl
@[simp] theorem classify_prof0 (d : Nat) (s : State) : (classify d s).prof0 = s.prof0 := by unfold classify; split <;> rfl
@[simp] theorem classify_prof1 (d : Nat) (s : State) : (classify d s).prof1 = s.prof1 := by unfold classify; split <;> rfl
@[simp] theorem classify_dev (d : Nat) (s : State) : (classify d s).dev = s.dev := by unfold classify; split <;> rfl
@[simp] theorem classify_ports (d : Nat) (s : State) : (classify d s).ports = s.ports := by unfold classify; split <;> rfl
@[simp] theorem classify_sched (d : Nat) (s : State) : (classify d s).sched = s.sched := by unfold classify; split <;> rfl
@[simp] theorem classify_trace (d : Nat) (s : State) : (classify d s).trace = s.trace := by unfold classify; split <;> rfl
@[simp] theorem classify_inputs (d : Nat) (s : State) : (classify d s).inputs = s.inputs := by unfold classify; split <;> rfl
@[simp] theorem classify_held (d : Nat) (s : State) : (classify d s).held = s.held := by unfold classify; split <;> rfl

@[simp] theorem matchPattern_cfg (s : State) : (matchPattern s).cfg = s.cfg := by unfold matchPattern; dsimp only; split <;> [skip; split] <;> simp
@[simp] theorem matchPattern_ctrl (s : State) : (matchPattern s).ctrl = s.ctrl := by unfold matchPattern; dsimp only; split <;> [skip; split] <;> simp
@[simp] theorem matchPattern_prof0 (s : State) : (matchPattern s).prof0 = s.prof0 := by unfold matchPattern; dsimp only; split <;> [skip; split] <;> simp
@[simp] theorem matchPattern_prof1 (s : State) : (matchPattern s).prof1 = s.prof1 := by unfold matchPattern; dsimp only; split <;> [skip; split] <;> simp
@[simp] theorem matchPattern_inputs (s : State) : (matchPattern s).inputs = s.inputs := by unfold matchPattern; dsimp only; split <;> [skip; split] <;> simp
@[simp] theorem matchPattern_held (s : State) : (matchPattern s).held = s.held := by unfold matchPattern; dsimp only; split <;> [skip; split] <;> simp

@[simp] theorem loseLock_cfg (s : State) : (loseLock s).cfg = s.cfg := by unfold loseLock; dsimp only; split <;> rfl
@[simp] theorem loseLock_ctrl (s : State) : (loseLock s).ctrl = s.ctrl := by unfold loseLock; dsimp only; split <;> rfl
@[simp] theorem loseLock_vstat (s : State) : (loseLock s).vstat = s.vstat := by unfold loseLock; dsimp only; split <;> rfl
@[simp] theorem loseLock_gen (s : State) : (loseLock s).gen = s.gen := by unfold loseLock; dsimp only; split <;> rfl
@[simp] theorem loseLock_loe (s : State) : (loseLock s).loe = s.loe := by unfold loseLock; dsimp only; split <;> rfl
@[simp] theorem loseLock_arb (s : State) : (loseLock s).arb = s.arb := by unfold loseLock; dsimp only; split <;> rfl
@[simp] theorem loseLock_prof0 (s : State) : (loseLock s).prof0 = s.prof0 := by unfold loseLock; dsimp only; split <;> rfl
@[simp] theorem loseLock_prof1 (s : State) : (loseLock s).prof1 = s.prof1 := by unfold loseLock; dsimp only; split <;> rfl
@[simp] theorem loseLock_dev (s : State) : (loseLock s).dev = s.dev := by unfold loseLock; dsimp only; split <;> rfl
@[simp] theorem loseLock_ports (s : State) : (loseLock s).ports = s.ports := by unfold loseLock; dsimp only; split <;> rfl
@[simp] theorem loseLock_sched (s : State) : (loseLock s).sched = s.sched := by unfold loseLock; dsimp only; split <;> rfl
@[simp] theorem loseLock_trace (s : State) : (loseLock s).trace = s.trace := by unfold loseLock; dsimp only; split <;> rfl
@[simp] theorem loseLock_inputs (s : State) : (loseLock s).inputs = s.inputs := by unfold loseLock; dsimp only; split <;> rfl
@[simp] theorem loseLock_held (s : State) : (loseLock s).held = s.held := by unfold loseLock; dsimp only; split <;> rfl

@[simp] theorem acceptedEdge_cfg (d : Nat) (s : State) : (acceptedEdge d s).cfg = s.cfg := by unfold acceptedEdge; split <;> [split; skip] <;> simp
@[simp] theorem acceptedEdge_ctrl (d : Nat) (s : State) : (acceptedEdge d s).ctrl = s.ctrl := by unfold acceptedEdge; split <;> [split; skip] <;> simp
@[simp] theorem acceptedEdge_prof0 (d : Nat) (s : State) : (acceptedEdge d s).prof0 = s.prof0 := by unfold acceptedEdge; split <;> [split; skip] <;> simp
@[simp] theorem acceptedEdge_prof1 (d : Nat) (s : State) : (acceptedEdge d s).prof1 = s.prof1 := by unfold acceptedEdge; split <;> [split; skip] <;> simp
@[simp] theorem acceptedEdge_inputs (d : Nat) (s : State) : (acceptedEdge d s).inputs = s.inputs := by unfold acceptedEdge; split <;> [split; skip] <;> simp
@[simp] theorem acceptedEdge_held (d : Nat) (s : State) : (acceptedEdge d s).held = s.held := by unfold acceptedEdge; split <;> [split; skip] <;> simp

@[simp] theorem cmpEvent_cfg (s : State) : (cmpEvent s).cfg = s.cfg := by
  unfold cmpEvent; dsimp only; split
  · split
    · split
      · rfl
      · split <;> simp
    · rfl
  · rfl
@[simp] theorem cmpEvent_ctrl (s : State) : (cmpEvent s).ctrl = s.ctrl := by
  unfold cmpEvent; dsimp only; split
  · split
    · split
      · rfl
      · split <;> simp
    · rfl
  · rfl
@[simp] theorem cmpEvent_prof0 (s : State) : (cmpEvent s).prof0 = s.prof0 := by
  unfold cmpEvent; dsimp only; split
  · split
    · split
      · rfl
      · split <;> simp
    · rfl
  · rfl
@[simp] theorem cmpEvent_prof1 (s : State) : (cmpEvent s).prof1 = s.prof1 := by
  unfold cmpEvent; dsimp only; split
  · split
    · split
      · rfl
      · split <;> simp
    · rfl
  · rfl
@[simp] theorem cmpEvent_inputs (s : State) : (cmpEvent s).inputs = s.inputs := by
  unfold cmpEvent; dsimp only; split
  · split
    · split
      · rfl
      · split <;> simp
    · rfl
  · rfl
@[simp] theorem cmpEvent_held (s : State) : (cmpEvent s).held = s.held := by
  unfold cmpEvent; dsimp only; split
  · split
    · split
      · rfl
      · split <;> simp
    · rfl
  · rfl

@[simp] theorem syncModeEffects_cfg (s : State) : (syncModeEffects s).cfg = s.cfg := rfl
@[simp] theorem syncModeEffects_ctrl (s : State) : (syncModeEffects s).ctrl = s.ctrl := rfl
@[simp] theorem syncModeEffects_vstat (s : State) : (syncModeEffects s).vstat = s.vstat := rfl
@[simp] theorem syncModeEffects_gen (s : State) : (syncModeEffects s).gen = s.gen := rfl
@[simp] theorem syncModeEffects_loe (s : State) : (syncModeEffects s).loe = s.loe := rfl
@[simp] theorem syncModeEffects_arb (s : State) : (syncModeEffects s).arb = s.arb := rfl
@[simp] theorem syncModeEffects_irq (s : State) : (syncModeEffects s).irq = s.irq := rfl
@[simp] theorem syncModeEffects_prof0 (s : State) : (syncModeEffects s).prof0 = s.prof0 := rfl
@[simp] theorem syncModeEffects_prof1 (s : State) : (syncModeEffects s).prof1 = s.prof1 := rfl
@[simp] theorem syncModeEffects_dev (s : State) : (syncModeEffects s).dev = s.dev := rfl
@[simp] theorem syncModeEffects_ports (s : State) : (syncModeEffects s).ports = s.ports := rfl
@[simp] theorem syncModeEffects_sched (s : State) : (syncModeEffects s).sched = s.sched := rfl
@[simp] theorem syncModeEffects_trace (s : State) : (syncModeEffects s).trace = s.trace := rfl
@[simp] theorem syncModeEffects_inputs (s : State) : (syncModeEffects s).inputs = s.inputs := rfl
@[simp] theorem syncModeEffects_held (s : State) : (syncModeEffects s).held = s.held := rfl

@[simp] theorem disableEffects_cfg (s : State) : (disableEffects s).cfg = s.cfg := by unfold disableEffects; dsimp only; split <;> simp
@[simp] theorem disableEffects_ctrl (s : State) : (disableEffects s).ctrl = s.ctrl := by unfold disableEffects; dsimp only; split <;> simp
@[simp] theorem disableEffects_vstat (s : State) : (disableEffects s).vstat = s.vstat := by unfold disableEffects; dsimp only; split <;> simp
@[simp] theorem disableEffects_prof0 (s : State) : (disableEffects s).prof0 = s.prof0 := by unfold disableEffects; dsimp only; split <;> simp
@[simp] theorem disableEffects_prof1 (s : State) : (disableEffects s).prof1 = s.prof1 := by unfold disableEffects; dsimp only; split <;> simp
@[simp] theorem disableEffects_inputs (s : State) : (disableEffects s).inputs = s.inputs := by unfold disableEffects; dsimp only; split <;> simp
@[simp] theorem disableEffects_held (s : State) : (disableEffects s).held = s.held := by unfold disableEffects; dsimp only; split <;> simp

@[simp] theorem enableEffects_cfg (s : State) : (enableEffects s).cfg = s.cfg := by unfold enableEffects; dsimp only; split <;> simp
@[simp] theorem enableEffects_ctrl (s : State) : (enableEffects s).ctrl = s.ctrl := by unfold enableEffects; dsimp only; split <;> simp
@[simp] theorem enableEffects_det (s : State) : (enableEffects s).det = s.det := by unfold enableEffects; dsimp only; split <;> simp
@[simp] theorem enableEffects_prof0 (s : State) : (enableEffects s).prof0 = s.prof0 := by unfold enableEffects; dsimp only; split <;> simp
@[simp] theorem enableEffects_prof1 (s : State) : (enableEffects s).prof1 = s.prof1 := by unfold enableEffects; dsimp only; split <;> simp
@[simp] theorem enableEffects_inputs (s : State) : (enableEffects s).inputs = s.inputs := by unfold enableEffects; dsimp only; split <;> simp
@[simp] theorem enableEffects_held (s : State) : (enableEffects s).held = s.held := by unfold enableEffects; dsimp only; split <;> simp

@[simp] theorem startTransfer_cfg (k : XferKind) (s : State) : (startTransfer k s).cfg = s.cfg := by simp [startTransfer]
@[simp] theorem startTransfer_ctrl (k : XferKind) (s : State) : (startTransfer k s).ctrl = s.ctrl := by simp [startTransfer]
@[simp] theorem startTransfer_vstat (k : XferKind) (s : State) : (startTransfer k s).vstat = s.vstat := by simp [startTransfer]
@[simp] theorem startTransfer_cnt (k : XferKind) (s : State) : (startTransfer k s).cnt = s.cnt := by simp [startTransfer]
@[simp] theorem startTransfer_det (k : XferKind) (s : State) : (startTransfer k s).det = s.det := by simp [startTransfer]
@[simp] theorem startTransfer_gen (k : XferKind) (s : State) : (startTransfer k s).gen = s.gen := by simp [startTransfer]
@[simp] theorem startTransfer_loe (k : XferKind) (s : State) : (startTransfer k s).loe = s.loe := by simp [startTransfer]
@[simp] theorem startTransfer_irq (k : XferKind) (s : State) : (startTransfer k s).irq = s.irq := by simp [startTransfer]
@[simp] theorem startTransfer_prof0 (k : XferKind) (s : State) : (startTransfer k s).prof0 = s.prof0 := by simp [startTransfer]
@[simp] theorem startTransfer_prof1 (k : XferKind) (s : State) : (startTransfer k s).prof1 = s.prof1 := by simp [startTransfer]
@[simp] theorem startTransfer_dev (k : XferKind) (s : State) : (startTransfer k s).dev = s.dev := by simp [startTransfer]
@[simp] theorem startTransfer_ports (k : XferKind) (s : State) : (startTransfer k s).ports = s.ports := by simp [startTransfer]
@[simp] theorem startTransfer_inputs (k : XferKind) (s : State) : (startTransfer k s).inputs = s.inputs := by simp [startTransfer]
@[simp] theorem startTransfer_held (k : XferKind) (s : State) : (startTransfer k s).held = s.held := by simp [startTransfer]

@[simp] theorem issueCommand_cfg (k : XferKind) (s : State) : (issueCommand k s).cfg = s.cfg := by unfold issueCommand; split <;> simp
@[simp] theorem issueCommand_ctrl (k : XferKind) (s : State) : (issueCommand k s).ctrl = s.ctrl := by unfold issueCommand; split <;> simp
@[simp] theorem issueCommand_vstat (k : XferKind) (s : State) : (issueCommand k s).vstat = s.vstat := by unfold issueCommand; split <;> simp
@[simp] theorem issueCommand_cnt (k : XferKind) (s : State) : (issueCommand k s).cnt = s.cnt := by unfold issueCommand; split <;> simp
@[simp] theorem issueCommand_det (k : XferKind) (s : State) : (issueCommand k s).det = s.det := by unfold issueCommand; split <;> simp
@[simp] theorem issueCommand_gen (k : XferKind) (s : State) : (issueCommand k s).gen = s.gen := by unfold issueCommand; split <;> simp
@[simp] theorem issueCommand_loe (k : XferKind) (s : State) : (issueCommand k s).loe = s.loe := by unfold issueCommand; split <;> simp
@[simp] theorem issueCommand_prof0 (k : XferKind) (s : State) : (issueCommand k s).prof0 = s.prof0 := by unfold issueCommand; split <;> simp
@[simp] theorem issueCommand_prof1 (k : XferKind) (s : State) : (issueCommand k s).prof1 = s.prof1 := by unfold issueCommand; split <;> simp
@[simp] theorem issueCommand_dev (k : XferKind) (s : State) : (issueCommand k s).dev = s.dev := by unfold issueCommand; split <;> simp
@[simp] theorem issueCommand_ports (k : XferKind) (s : State) : (issueCommand k s).ports = s.ports := by unfold issueCommand; split <;> simp
@[simp] theorem issueCommand_inputs (k : XferKind) (s : State) : (issueCommand k s).inputs = s.inputs := by unfold issueCommand; split <;> simp
@[simp] theorem issueCommand_held (k : XferKind) (s : State) : (issueCommand k s).held = s.held := by unfold issueCommand; split <;> simp

@[simp] theorem nopCommand_cfg (s : State) : (nopCommand s).cfg = s.cfg := rfl
@[simp] theorem nopCommand_ctrl (s : State) : (nopCommand s).ctrl = s.ctrl := rfl
@[simp] theorem nopCommand_vstat (s : State) : (nopCommand s).vstat = s.vstat := rfl
@[simp] theorem nopCommand_cnt (s : State) : (nopCommand s).cnt = s.cnt := rfl
@[simp] theorem nopCommand_det (s : State) : (nopCommand s).det = s.det := rfl
@[simp] theorem nopCommand_gen (s : State) : (nopCommand s).gen = s.gen := rfl
@[simp] theorem nopCommand_loe (s : State) : (nopCommand s).loe = s.loe := rfl
@[simp] theorem nopCommand_irq (s : State) : (nopCommand s).irq = s.irq := rfl
@[simp] theorem nopCommand_prof0 (s : State) : (nopCommand s).prof0 = s.prof0 := rfl
@[simp] theorem nopCommand_prof1 (s : State) : (nopCommand s).prof1 = s.prof1 := rfl
@[simp] theorem nopCommand_dev (s : State) : (nopCommand s).dev = s.dev := rfl
@[simp] theorem nopCommand_ports (s : State) : (nopCommand s).ports = s.ports := rfl
@[simp] theorem nopCommand_sched (s : State) : (nopCommand s).sched = s.sched := rfl
@[simp] theorem nopCommand_trace (s : State) : (nopCommand s).trace = s.trace := rfl
@[simp] theorem nopCommand_inputs (s : State) : (nopCommand s).inputs = s.inputs := rfl
@[simp] theorem nopCommand_held (s : State) : (nopCommand s).held = s.held := rfl

@[simp] theorem fmCommand_cfg (op : BitVec 4) (s : State) : (fmCommand op s).cfg = s.cfg := by unfold fmCommand; split <;> simp
@[simp] theorem fmCommand_ctrl (op : BitVec 4) (s : State) : (fmCommand op s).ctrl = s.ctrl := by unfold fmCommand; split <;> simp
@[simp] theorem fmCommand_vstat (op : BitVec 4) (s : State) : (fmCommand op s).vstat = s.vstat := by unfold fmCommand; split <;> simp
@[simp] theorem fmCommand_cnt (op : BitVec 4) (s : State) : (fmCommand op s).cnt = s.cnt := by unfold fmCommand; split <;> simp
@[simp] theorem fmCommand_det (op : BitVec 4) (s : State) : (fmCommand op s).det = s.det := by unfold fmCommand; split <;> simp
@[simp] theorem fmCommand_gen (op : BitVec 4) (s : State) : (fmCommand op s).gen = s.gen := by unfold fmCommand; split <;> simp
@[simp] theorem fmCommand_loe (op : BitVec 4) (s : State) : (fmCommand op s).loe = s.loe := by unfold fmCommand; split <;> simp
@[simp] theorem fmCommand_prof0 (op : BitVec 4) (s : State) : (fmCommand op s).prof0 = s.prof0 := by unfold fmCommand; split <;> simp
@[simp] theorem fmCommand_prof1 (op : BitVec 4) (s : State) : (fmCommand op s).prof1 = s.prof1 := by unfold fmCommand; split <;> simp
@[simp] theorem fmCommand_dev (op : BitVec 4) (s : State) : (fmCommand op s).dev = s.dev := by unfold fmCommand; split <;> simp
@[simp] theorem fmCommand_ports (op : BitVec 4) (s : State) : (fmCommand op s).ports = s.ports := by unfold fmCommand; split <;> simp
@[simp] theorem fmCommand_inputs (op : BitVec 4) (s : State) : (fmCommand op s).inputs = s.inputs := by unfold fmCommand; split <;> simp
@[simp] theorem fmCommand_held (op : BitVec 4) (s : State) : (fmCommand op s).held = s.held := by unfold fmCommand; split <;> simp

@[simp] theorem completeKind_cfg (s : State) : (completeKind s).cfg = s.cfg := by unfold completeKind; split <;> simp [completeInit, completeWrite, completeRead]
@[simp] theorem completeKind_ctrl (s : State) : (completeKind s).ctrl = s.ctrl := by unfold completeKind; split <;> simp [completeInit, completeWrite, completeRead]
@[simp] theorem completeKind_vstat (s : State) : (completeKind s).vstat = s.vstat := by unfold completeKind; split <;> simp [completeInit, completeWrite, completeRead]
@[simp] theorem completeKind_cnt (s : State) : (completeKind s).cnt = s.cnt := by unfold completeKind; split <;> simp [completeInit, completeWrite, completeRead]
@[simp] theorem completeKind_det (s : State) : (completeKind s).det = s.det := by unfold completeKind; split <;> simp [completeInit, completeWrite, completeRead]
@[simp] theorem completeKind_gen (s : State) : (completeKind s).gen = s.gen := by unfold completeKind; split <;> simp [completeInit, completeWrite, completeRead]
@[simp] theorem completeKind_loe (s : State) : (completeKind s).loe = s.loe := by unfold completeKind; split <;> simp [completeInit, completeWrite, completeRead]
@[simp] theorem completeKind_irq (s : State) : (completeKind s).irq = s.irq := by unfold completeKind; split <;> simp [completeInit, completeWrite, completeRead]
@[simp] theorem completeKind_prof0 (s : State) : (completeKind s).prof0 = s.prof0 := by unfold completeKind; split <;> simp [completeInit, completeWrite, completeRead]
@[simp] theorem completeKind_prof1 (s : State) : (completeKind s).prof1 = s.prof1 := by unfold completeKind; split <;> simp [completeInit, completeWrite, completeRead]
@[simp] theorem completeKind_ports (s : State) : (completeKind s).ports = s.ports := by unfold completeKind; split <;> simp [completeInit, completeWrite, completeRead]
@[simp] theorem completeKind_trace (s : State) : (completeKind s).trace = s.trace := by unfold completeKind; split <;> simp [completeInit, completeWrite, completeRead]
@[simp] theorem completeKind_inputs (s : State) : (completeKind s).inputs = s.inputs := by unfold completeKind; split <;> simp [completeInit, completeWrite, completeRead]
@[simp] theorem completeKind_held (s : State) : (completeKind s).held = s.held := by unfold completeKind; split <;> simp [completeInit, completeWrite, completeRead]

@[simp] theorem xferDoneEvent_cfg (s : State) : (xferDoneEvent s).cfg = s.cfg := by unfold xferDoneEvent; dsimp only; split <;> simp
@[simp] theorem xferDoneEvent_ctrl (s : State) : (xferDoneEvent s).ctrl = s.ctrl := by unfold xferDoneEvent; dsimp only; split <;> simp
@[simp] theorem xferDoneEvent_vstat (s : State) : (xferDoneEvent s).vstat = s.vstat := by unfold xferDoneEvent; dsimp only; split <;> simp
@[simp] theorem xferDoneEvent_cnt (s : State) : (xferDoneEvent s).cnt = s.cnt := by unfold xferDoneEvent; dsimp only; split <;> simp
@[simp] theorem xferDoneEvent_det (s : State) : (xferDoneEvent s).det = s.det := by unfold xferDoneEvent; dsimp only; split <;> simp
@[simp] theorem xferDoneEvent_gen (s : State) : (xferDoneEvent s).gen = s.gen := by unfold xferDoneEvent; dsimp only; split <;> simp
@[simp] theorem xferDoneEvent_loe (s : State) : (xferDoneEvent s).loe = s.loe := by unfold xferDoneEvent; dsimp only; split <;> simp
@[simp] theorem xferDoneEvent_prof0 (s : State) : (xferDoneEvent s).prof0 = s.prof0 := by unfold xferDoneEvent; dsimp only; split <;> simp
@[simp] theorem xferDoneEvent_prof1 (s : State) : (xferDoneEvent s).prof1 = s.prof1 := by unfold xferDoneEvent; dsimp only; split <;> simp
@[simp] theorem xferDoneEvent_ports (s : State) : (xferDoneEvent s).ports = s.ports := by unfold xferDoneEvent; dsimp only; split <;> simp
@[simp] theorem xferDoneEvent_inputs (s : State) : (xferDoneEvent s).inputs = s.inputs := by unfold xferDoneEvent; dsimp only; split <;> simp
@[simp] theorem xferDoneEvent_held (s : State) : (xferDoneEvent s).held = s.held := by unfold xferDoneEvent; dsimp only; split <;> simp

@[simp] theorem pixStartEvent_cfg (s : State) : (pixStartEvent s).cfg = s.cfg := by unfold pixStartEvent; split <;> rfl
@[simp] theorem pixStartEvent_ctrl (s : State) : (pixStartEvent s).ctrl = s.ctrl := by unfold pixStartEvent; split <;> rfl
@[simp] theorem pixStartEvent_vstat (s : State) : (pixStartEvent s).vstat = s.vstat := by unfold pixStartEvent; split <;> rfl
@[simp] theorem pixStartEvent_cnt (s : State) : (pixStartEvent s).cnt = s.cnt := by unfold pixStartEvent; split <;> rfl
@[simp] theorem pixStartEvent_det (s : State) : (pixStartEvent s).det = s.det := by unfold pixStartEvent; split <;> rfl
@[simp] theorem pixStartEvent_gen (s : State) : (pixStartEvent s).gen = s.gen := by unfold pixStartEvent; split <;> rfl
@[simp] theorem pixStartEvent_loe (s : State) : (pixStartEvent s).loe = s.loe := by unfold pixStartEvent; split <;> rfl
@[simp] theorem pixStartEvent_arb (s : State) : (pixStartEvent s).arb = s.arb := by unfold pixStartEvent; split <;> rfl
@[simp] theorem pixStartEvent_irq (s : State) : (pixStartEvent s).irq = s.irq := by unfold pixStartEvent; split <;> rfl
@[simp] theorem pixStartEvent_prof0 (s : State) : (pixStartEvent s).prof0 = s.prof0 := by unfold pixStartEvent; split <;> rfl
@[simp] theorem pixStartEvent_prof1 (s : State) : (pixStartEvent s).prof1 = s.prof1 := by unfold pixStartEvent; split <;> rfl
@[simp] theorem pixStartEvent_dev (s : State) : (pixStartEvent s).dev = s.dev := by unfold pixStartEvent; split <;> rfl
@[simp] theorem pixStartEvent_sched (s : State) : (pixStartEvent s).sched = s.sched := by unfold pixStartEvent; split <;> rfl
@[simp] theorem pixStartEvent_trace (s : State) : (pixStartEvent s).trace = s.trace := by unfold pixStartEvent; split <;> rfl
@[simp] theorem pixStartEvent_inputs (s : State) : (pixStartEvent s).inputs = s.inputs := by unfold pixStartEvent; split <;> rfl
@[simp] theorem pixStartEvent_held (s : State) : (pixStartEvent s).held = s.held := by unfold pixStartEvent; split <;> rfl

@[simp] theorem streamEndEvent_cfg (s : State) : (streamEndEvent s).cfg = s.cfg := by unfold streamEndEvent; split <;> simp
@[simp] theorem streamEndEvent_ctrl (s : State) : (streamEndEvent s).ctrl = s.ctrl := by unfold streamEndEvent; split <;> simp
@[simp] theorem streamEndEvent_vstat (s : State) : (streamEndEvent s).vstat = s.vstat := by unfold streamEndEvent; split <;> simp
@[simp] theorem streamEndEvent_cnt (s : State) : (streamEndEvent s).cnt = s.cnt := by unfold streamEndEvent; split <;> simp
@[simp] theorem streamEndEvent_det (s : State) : (streamEndEvent s).det = s.det := by unfold streamEndEvent; split <;> simp
@[simp] theorem streamEndEvent_gen (s : State) : (streamEndEvent s).gen = s.gen := by unfold streamEndEvent; split <;> simp
@[simp] theorem streamEndEvent_arb (s : State) : (streamEndEvent s).arb = s.arb := by unfold streamEndEvent; split <;> simp
@[simp] theorem streamEndEvent_irq (s : State) : (streamEndEvent s).irq = s.irq := by unfold streamEndEvent; split <;> simp
@[simp] theorem streamEndEvent_prof0 (s : State) : (streamEndEvent s).prof0 = s.prof0 := by unfold streamEndEvent; split <;> simp
@[simp] theorem streamEndEvent_prof1 (s : State) : (streamEndEvent s).prof1 = s.prof1 := by unfold streamEndEvent; split <;> simp
@[simp] theorem streamEndEvent_dev (s : State) : (streamEndEvent s).dev = s.dev := by unfold streamEndEvent; split <;> simp
@[simp] theorem streamEndEvent_sched (s : State) : (streamEndEvent s).sched = s.sched := by unfold streamEndEvent; split <;> simp
@[simp] theorem streamEndEvent_inputs (s : State) : (streamEndEvent s).inputs = s.inputs := by unfold streamEndEvent; split <;> simp
@[simp] theorem streamEndEvent_held (s : State) : (streamEndEvent s).held = s.held := by unfold streamEndEvent; split <;> simp

@[simp] theorem readRdata_cfg (s : State) : (readRdata s).cfg = s.cfg := by unfold readRdata; split <;> simp
@[simp] theorem readRdata_ctrl (s : State) : (readRdata s).ctrl = s.ctrl := by unfold readRdata; split <;> simp
@[simp] theorem readRdata_vstat (s : State) : (readRdata s).vstat = s.vstat := by unfold readRdata; split <;> simp
@[simp] theorem readRdata_cnt (s : State) : (readRdata s).cnt = s.cnt := by unfold readRdata; split <;> simp
@[simp] theorem readRdata_det (s : State) : (readRdata s).det = s.det := by unfold readRdata; split <;> simp
@[simp] theorem readRdata_gen (s : State) : (readRdata s).gen = s.gen := by unfold readRdata; split <;> simp
@[simp] theorem readRdata_loe (s : State) : (readRdata s).loe = s.loe := by unfold readRdata; split <;> simp
@[simp] theorem readRdata_irq (s : State) : (readRdata s).irq = s.irq := by unfold readRdata; split <;> simp
@[simp] theorem readRdata_prof0 (s : State) : (readRdata s).prof0 = s.prof0 := by unfold readRdata; split <;> simp
@[simp] theorem readRdata_prof1 (s : State) : (readRdata s).prof1 = s.prof1 := by unfold readRdata; split <;> simp
@[simp] theorem readRdata_dev (s : State) : (readRdata s).dev = s.dev := by unfold readRdata; split <;> simp
@[simp] theorem readRdata_inputs (s : State) : (readRdata s).inputs = s.inputs := by unfold readRdata; split <;> simp
@[simp] theorem readRdata_held (s : State) : (readRdata s).held = s.held := by unfold readRdata; split <;> simp

@[simp] theorem readReg_cfg (r : Reg) (s : State) : (readReg r s).cfg = s.cfg := by cases r <;> simp [readReg]
@[simp] theorem readReg_ctrl (r : Reg) (s : State) : (readReg r s).ctrl = s.ctrl := by cases r <;> simp [readReg]
@[simp] theorem readReg_vstat (r : Reg) (s : State) : (readReg r s).vstat = s.vstat := by cases r <;> simp [readReg]
@[simp] theorem readReg_cnt (r : Reg) (s : State) : (readReg r s).cnt = s.cnt := by cases r <;> simp [readReg]
@[simp] theorem readReg_det (r : Reg) (s : State) : (readReg r s).det = s.det := by cases r <;> simp [readReg]
@[simp] theorem readReg_gen (r : Reg) (s : State) : (readReg r s).gen = s.gen := by cases r <;> simp [readReg]
@[simp] theorem readReg_loe (r : Reg) (s : State) : (readReg r s).loe = s.loe := by cases r <;> simp [readReg]
@[simp] theorem readReg_irq (r : Reg) (s : State) : (readReg r s).irq = s.irq := by cases r <;> simp [readReg]
@[simp] theorem readReg_prof0 (r : Reg) (s : State) : (readReg r s).prof0 = s.prof0 := by cases r <;> simp [readReg]
@[simp] theorem readReg_prof1 (r : Reg) (s : State) : (readReg r s).prof1 = s.prof1 := by cases r <;> simp [readReg]
@[simp] theorem readReg_dev (r : Reg) (s : State) : (readReg r s).dev = s.dev := by cases r <;> simp [readReg]
@[simp] theorem readReg_inputs (r : Reg) (s : State) : (readReg r s).inputs = s.inputs := by cases r <;> simp [readReg]
@[simp] theorem readReg_held (r : Reg) (s : State) : (readReg r s).held = s.held := by cases r <;> simp [readReg]

@[simp] theorem hostRead_cfg (a : RegAddr) (s : State) : (hostRead a s).cfg = s.cfg := by unfold hostRead; split <;> simp
@[simp] theorem hostRead_ctrl (a : RegAddr) (s : State) : (hostRead a s).ctrl = s.ctrl := by unfold hostRead; split <;> simp
@[simp] theorem hostRead_vstat (a : RegAddr) (s : State) : (hostRead a s).vstat = s.vstat := by unfold hostRead; split <;> simp
@[simp] theorem hostRead_cnt (a : RegAddr) (s : State) : (hostRead a s).cnt = s.cnt := by unfold hostRead; split <;> simp
@[simp] theorem hostRead_det (a : RegAddr) (s : State) : (hostRead a s).det = s.det := by unfold hostRead; split <;> simp
@[simp] theorem hostRead_gen (a : RegAddr) (s : State) : (hostRead a s).gen = s.gen := by unfold hostRead; split <;> simp
@[simp] theorem hostRead_loe (a : RegAddr) (s : State) : (hostRead a s).loe = s.loe := by unfold hostRead; split <;> simp
@[simp] theorem hostRead_irq (a : RegAddr) (s : State) : (hostRead a s).irq = s.irq := by unfold hostRead; split <;> simp
@[simp] theorem hostRead_prof0 (a : RegAddr) (s : State) : (hostRead a s).prof0 = s.prof0 := by unfold hostRead; split <;> simp
@[simp] theorem hostRead_prof1 (a : RegAddr) (s : State) : (hostRead a s).prof1 = s.prof1 := by unfold hostRead; split <;> simp
@[simp] theorem hostRead_dev (a : RegAddr) (s : State) : (hostRead a s).dev = s.dev := by unfold hostRead; split <;> simp
@[simp] theorem hostRead_inputs (a : RegAddr) (s : State) : (hostRead a s).inputs = s.inputs := by unfold hostRead; split <;> simp
@[simp] theorem hostRead_held (a : RegAddr) (s : State) : (hostRead a s).held = s.held := by unfold hostRead; split <;> simp

end Sys2Proof.Machine
end

