-- ==== Sys2Proof/Laws/Memory.lean ====
section
/-! SUPPORT. The laws of the memories: a read after a write, the canonical form and the address bound are kept by every
memory operation, and the memories of the reset state have them. -/

namespace Sys2Proof.Machine

@[simp] theorem memRead_nil (a : Nat) : memRead [] a = none := rfl

/-- A read after a write to the same address gives the byte written. -/
@[simp] theorem memRead_memWrite_same (m : Memory) (a : Nat) (b : Byte) : memRead (memWrite m a b) a = some b := by
  induction m with
  | nil => simp [memWrite, memRead]
  | cons c rest ih =>
    obtain ⟨k, v⟩ := c
    simp only [memWrite]
    split
    · simp [memRead]
    · split
      · simp [memRead]
      · rename_i h
        simp [memRead, Ne.symm h, ih]

/-- A write leaves every other address alone. -/
theorem memRead_memWrite_other (m : Memory) (a x : Nat) (b : Byte) (h : x ≠ a) :
    memRead (memWrite m a b) x = memRead m x := by
  induction m with
  | nil => simp [memWrite, memRead, Ne.symm h]
  | cons c rest ih =>
    obtain ⟨k, v⟩ := c
    simp only [memWrite]
    split
    · simp [memRead, Ne.symm h]
    · split
      · rename_i h2
        simp [memRead, ← h2, Ne.symm h]
      · simp [memRead, ih]

theorem memRead_memWrite (m : Memory) (a x : Nat) (b : Byte) :
    memRead (memWrite m a b) x = if x = a then some b else memRead m x := by
  split
  · rename_i h
    rw [h, memRead_memWrite_same]
  · rename_i h
    exact memRead_memWrite_other m a x b h

/-- The canonical form, read as pairwise rising addresses. -/
theorem wf_iff_pairwise (m : Memory) : Memory.wf m = true ↔ m.Pairwise (fun c d => c.1 < d.1) := by
  induction m with
  | nil => simp [Memory.wf]
  | cons c rest ih =>
    cases rest with
    | nil => simp [Memory.wf]
    | cons d tail =>
      simp only [Memory.wf, Bool.and_eq_true, decide_eq_true_eq, ih]
      constructor
      · rintro ⟨h, hp⟩
        refine List.Pairwise.cons ?_ hp
        intro e he
        rcases List.mem_cons.mp he with rfl | he
        · exact h
        · exact lt_trans h (List.rel_of_pairwise_cons hp he)
      · intro hp
        exact ⟨List.rel_of_pairwise_cons hp (List.mem_cons_self ..), hp.of_cons⟩

/-- Every entry after a write is the written one or an old one. -/
theorem mem_memWrite (m : Memory) (a : Nat) (b : Byte) (c : Host.Cell) (h : c ∈ memWrite m a b) :
    c = (a, b) ∨ c ∈ m := by
  induction m with
  | nil => simpa [memWrite] using h
  | cons d rest ih =>
    obtain ⟨k, v⟩ := d
    simp only [memWrite] at h
    split at h
    · simpa using h
    · split at h
      · rcases List.mem_cons.mp h with h | h
        · exact .inl h
        · exact .inr (List.mem_cons_of_mem _ h)
      · rcases List.mem_cons.mp h with h | h
        · exact .inr (by simp [h])
        · rcases ih h with h | h
          · exact .inl h
          · exact .inr (List.mem_cons_of_mem _ h)

theorem memWrite_wf (m : Memory) (a : Nat) (b : Byte) (h : Memory.wf m = true) : Memory.wf (memWrite m a b) = true := by
  rw [wf_iff_pairwise] at *
  induction m with
  | nil => simp [memWrite]
  | cons d rest ih =>
    obtain ⟨k, v⟩ := d
    simp only [memWrite]
    have hk : ∀ e ∈ rest, k < e.1 := fun e he => List.rel_of_pairwise_cons h he
    split
    · rename_i hlt
      refine List.Pairwise.cons ?_ h
      intro e he
      rcases List.mem_cons.mp he with rfl | he
      · exact hlt
      · exact lt_trans hlt (hk e he)
    · split
      · rename_i heq
        refine List.Pairwise.cons ?_ h.of_cons
        intro e he
        simpa [heq] using hk e he
      · rename_i hnlt hne
        refine List.Pairwise.cons ?_ (ih h.of_cons)
        intro e he
        rcases mem_memWrite _ _ _ _ he with rfl | he
        · simp only
          omega
        · exact hk e he

theorem memForget_wf (m : Memory) (lo n : Nat) (h : Memory.wf m = true) : Memory.wf (memForget m lo n) = true := by
  rw [wf_iff_pairwise] at *
  exact h.filter _

theorem memWriteBytes_wf (size : Nat) (m : Memory) (a : Nat) (data : List Byte) (h : Memory.wf m = true) :
    Memory.wf (memWriteBytes size m a data) = true := by
  induction data generalizing m a with
  | nil => exact h
  | cons b rest ih => exact ih _ _ (memWrite_wf _ _ _ h)

theorem memWithin_iff (size : Nat) (m : Memory) : memWithin size m = true ↔ ∀ c ∈ m, c.1 < size := by
  simp [memWithin]

theorem memWrite_within (size : Nat) (m : Memory) (a : Nat) (b : Byte) (h : memWithin size m = true) (ha : a < size) :
    memWithin size (memWrite m a b) = true := by
  rw [memWithin_iff] at *
  intro c hc
  rcases mem_memWrite _ _ _ _ hc with rfl | hc
  · exact ha
  · exact h c hc

theorem memForget_within (size : Nat) (m : Memory) (lo n : Nat) (h : memWithin size m = true) :
    memWithin size (memForget m lo n) = true := by
  rw [memWithin_iff] at *
  intro c hc
  exact h c (List.mem_filter.mp hc).1

theorem memWriteBytes_within (size : Nat) (m : Memory) (a : Nat) (data : List Byte) (h : memWithin size m = true)
    (hs : 0 < size) : memWithin size (memWriteBytes size m a data) = true := by
  induction data generalizing m a with
  | nil => exact h
  | cons b rest ih => exact ih _ _ (memWrite_within _ _ _ _ h (Nat.mod_lt _ hs))

/-- A bytes write leaves every address outside the written range (modulo the size) alone. -/
theorem memRead_memWriteBytes_outside (size : Nat) (m : Memory) (a x : Nat) (data : List Byte)
    (h : ∀ i < data.length, x ≠ (a + i) % size) : memRead (memWriteBytes size m a data) x = memRead m x := by
  induction data generalizing m a with
  | nil => rfl
  | cons b rest ih =>
    have h0 := h 0 (by simp)
    simp only [memWriteBytes]
    rw [ih, memRead_memWrite_other _ _ _ _ (by simpa using h0)]
    intro i hi
    have := h (i + 1) (by simpa using hi)
    rwa [show a + (i + 1) = a + 1 + i by omega] at this

/-- A forgotten byte has no value, and every other byte keeps its own. -/
theorem memRead_memForget (m : Memory) (lo n x : Nat) :
    memRead (memForget m lo n) x = if lo ≤ x ∧ x < lo + n then none else memRead m x := by
  induction m with
  | nil => simp [memForget]
  | cons c rest ih =>
    obtain ⟨k, v⟩ := c
    by_cases hr : lo ≤ k ∧ k < lo + n
    · have h : memForget ((k, v) :: rest) lo n = memForget rest lo n := by simp [memForget, hr.1, hr.2]
      rw [h, ih]
      by_cases hk : k = x
      · subst hk
        simp [hr]
      · simp [memRead, hk]
    · have h : memForget ((k, v) :: rest) lo n = (k, v) :: memForget rest lo n := by
        simp only [memForget, List.filter_cons]
        rw [if_pos (by simp; omega)]
      rw [h]
      by_cases hk : k = x
      · subst hk
        simp [memRead, hr]
      · simp [memRead, hk, ih]

/-- The memories of the reset state are canonical (R43, R38). -/
theorem reset_memories_wf : Memory.wf State.reset.dev.mem = true ∧ Memory.wf State.reset.arb.buf = true :=
  ⟨rfl, rfl⟩

end Sys2Proof.Machine
end

