-- ==== Sys2Proof/Laws/PerInstr.lean ====
section
/-! SUPPORT. Per operation: its encoding stays within the width of its format (spec/30_encoding.md R120): 25 bits of a
HOSTREG access word, 4 of an FM_CMD opcode, 5 of an event code, 3 of a ZONE value; only a wire frame carries data bytes. -/

namespace Sys2Proof.Laws

/-- Whether an encoded operation has no bit outside its format's width (R120), and data bytes only on the wires. -/
def fitsFormat (f : Fetch) : Prop :=
  match f.port with
  | .hostreg => f.word.toNat < 2 ^ 25 ∧ f.tail = []
  | .fmcmd => f.word.toNat < 2 ^ 4 ∧ f.tail = []
  | .wire _ => True
  | .event => f.word.toNat % 2 ^ 8 < 2 ^ 5 ∧ f.tail = []
  | .zone => f.word.toNat < 2 ^ 3 ∧ f.tail = []

/-- The statement of the family: the operation's encoding fits its format, whatever the command bytes. -/
def FormatWidth.Statement (i : Instr) : Prop := ∀ c : CmdBytes, fitsFormat (encode c i)

/-- A word widened from `k` bits is below 2^k. -/
theorem toNat_setWidth_lt {k m : Nat} (x : BitVec k) : (x.setWidth m).toNat < 2 ^ k :=
  Nat.lt_of_le_of_lt (BitVec.toNat_setWidth m x ▸ Nat.mod_le _ _) x.isLt

theorem hostFetch_fits (w : Bool) (a : RegAddr) (d : Word) : fitsFormat (hostFetch w a d) := ⟨toNat_setWidth_lt _, rfl⟩

theorem fmCmdFetch_fits (op : BitVec 4) : fitsFormat (fmCmdFetch op) := ⟨toNat_setWidth_lt _, rfl⟩

theorem zoneFetch_fits (z : BitVec 3) : fitsFormat (zoneFetch z) := ⟨toNat_setWidth_lt _, rfl⟩

theorem eventFetch_fits (code : BitVec 5) (operand : BitVec 24) : fitsFormat (eventFetch code operand) := by
  refine ⟨?_, rfl⟩
  have h := code.isLt
  simp only [eventFetch, BitVec.toNat_append, BitVec.toNat_setWidth]
  rw [Nat.mod_eq_of_lt (a := code.toNat) (by omega), ← Nat.shiftLeft_add_eq_or_of_lt (by omega), Nat.shiftLeft_eq]
  omega

theorem FormatWidth.rdCtrl : FormatWidth.Statement .rdCtrl := fun _ => hostFetch_fits _ _ _
theorem FormatWidth.wrCtrl (data : Word) : FormatWidth.Statement (.wrCtrl data) := fun _ => hostFetch_fits _ _ _
theorem FormatWidth.rdVstat : FormatWidth.Statement .rdVstat := fun _ => hostFetch_fits _ _ _
theorem FormatWidth.wrVstat (data : Word) : FormatWidth.Statement (.wrVstat data) := fun _ => hostFetch_fits _ _ _
theorem FormatWidth.rdVstatSet : FormatWidth.Statement .rdVstatSet := fun _ => hostFetch_fits _ _ _
theorem FormatWidth.wrVstatSet (data : Word) : FormatWidth.Statement (.wrVstatSet data) := fun _ => hostFetch_fits _ _ _
theorem FormatWidth.rdVstatClr : FormatWidth.Statement .rdVstatClr := fun _ => hostFetch_fits _ _ _
theorem FormatWidth.wrVstatClr (data : Word) : FormatWidth.Statement (.wrVstatClr data) := fun _ => hostFetch_fits _ _ _
theorem FormatWidth.rdLine : FormatWidth.Statement .rdLine := fun _ => hostFetch_fits _ _ _
theorem FormatWidth.wrLine (data : Word) : FormatWidth.Statement (.wrLine data) := fun _ => hostFetch_fits _ _ _
theorem FormatWidth.rdLastCount : FormatWidth.Statement .rdLastCount := fun _ => hostFetch_fits _ _ _
theorem FormatWidth.wrLastCount (data : Word) : FormatWidth.Statement (.wrLastCount data) := fun _ => hostFetch_fits _ _ _
theorem FormatWidth.rdField : FormatWidth.Statement .rdField := fun _ => hostFetch_fits _ _ _
theorem FormatWidth.wrField (data : Word) : FormatWidth.Statement (.wrField data) := fun _ => hostFetch_fits _ _ _
theorem FormatWidth.rdElapsed : FormatWidth.Statement .rdElapsed := fun _ => hostFetch_fits _ _ _
theorem FormatWidth.wrElapsed (data : Word) : FormatWidth.Statement (.wrElapsed data) := fun _ => hostFetch_fits _ _ _
theorem FormatWidth.rdIntPend : FormatWidth.Statement .rdIntPend := fun _ => hostFetch_fits _ _ _
theorem FormatWidth.wrIntPend (data : Word) : FormatWidth.Statement (.wrIntPend data) := fun _ => hostFetch_fits _ _ _
theorem FormatWidth.rdIntEn : FormatWidth.Statement .rdIntEn := fun _ => hostFetch_fits _ _ _
theorem FormatWidth.wrIntEn (data : Word) : FormatWidth.Statement (.wrIntEn data) := fun _ => hostFetch_fits _ _ _
theorem FormatWidth.rdFmAddrLo : FormatWidth.Statement .rdFmAddrLo := fun _ => hostFetch_fits _ _ _
theorem FormatWidth.wrFmAddrLo (data : Word) : FormatWidth.Statement (.wrFmAddrLo data) := fun _ => hostFetch_fits _ _ _
theorem FormatWidth.rdFmAddrHi : FormatWidth.Statement .rdFmAddrHi := fun _ => hostFetch_fits _ _ _
theorem FormatWidth.wrFmAddrHi (data : Word) : FormatWidth.Statement (.wrFmAddrHi data) := fun _ => hostFetch_fits _ _ _
theorem FormatWidth.rdFmLen : FormatWidth.Statement .rdFmLen := fun _ => hostFetch_fits _ _ _
theorem FormatWidth.wrFmLen (data : Word) : FormatWidth.Statement (.wrFmLen data) := fun _ => hostFetch_fits _ _ _
theorem FormatWidth.rdFmCmd : FormatWidth.Statement .rdFmCmd := fun _ => hostFetch_fits _ _ _
theorem FormatWidth.wrFmCmd (data : Word) : FormatWidth.Statement (.wrFmCmd data) := fun _ => hostFetch_fits _ _ _
theorem FormatWidth.rdFmStat : FormatWidth.Statement .rdFmStat := fun _ => hostFetch_fits _ _ _
theorem FormatWidth.wrFmStat (data : Word) : FormatWidth.Statement (.wrFmStat data) := fun _ => hostFetch_fits _ _ _
theorem FormatWidth.rdFmWdata : FormatWidth.Statement .rdFmWdata := fun _ => hostFetch_fits _ _ _
theorem FormatWidth.wrFmWdata (data : Word) : FormatWidth.Statement (.wrFmWdata data) := fun _ => hostFetch_fits _ _ _
theorem FormatWidth.rdFmBufptr : FormatWidth.Statement .rdFmBufptr := fun _ => hostFetch_fits _ _ _
theorem FormatWidth.wrFmBufptr (data : Word) : FormatWidth.Statement (.wrFmBufptr data) := fun _ => hostFetch_fits _ _ _
theorem FormatWidth.rdFmRdata : FormatWidth.Statement .rdFmRdata := fun _ => hostFetch_fits _ _ _
theorem FormatWidth.wrFmRdata (data : Word) : FormatWidth.Statement (.wrFmRdata data) := fun _ => hostFetch_fits _ _ _
theorem FormatWidth.rdOutResW : FormatWidth.Statement .rdOutResW := fun _ => hostFetch_fits _ _ _
theorem FormatWidth.wrOutResW (data : Word) : FormatWidth.Statement (.wrOutResW data) := fun _ => hostFetch_fits _ _ _
theorem FormatWidth.rdOutResH : FormatWidth.Statement .rdOutResH := fun _ => hostFetch_fits _ _ _
theorem FormatWidth.wrOutResH (data : Word) : FormatWidth.Statement (.wrOutResH data) := fun _ => hostFetch_fits _ _ _
theorem FormatWidth.rdDbgSr : FormatWidth.Statement .rdDbgSr := fun _ => hostFetch_fits _ _ _
theorem FormatWidth.wrDbgSr (data : Word) : FormatWidth.Statement (.wrDbgSr data) := fun _ => hostFetch_fits _ _ _
theorem FormatWidth.rdDbgSrcnt : FormatWidth.Statement .rdDbgSrcnt := fun _ => hostFetch_fits _ _ _
theorem FormatWidth.wrDbgSrcnt (data : Word) : FormatWidth.Statement (.wrDbgSrcnt data) := fun _ => hostFetch_fits _ _ _
theorem FormatWidth.rdDbgLastline : FormatWidth.Statement .rdDbgLastline := fun _ => hostFetch_fits _ _ _
theorem FormatWidth.wrDbgLastline (data : Word) : FormatWidth.Statement (.wrDbgLastline data) := fun _ => hostFetch_fits _ _ _
theorem FormatWidth.rdDbgAddrLo : FormatWidth.Statement .rdDbgAddrLo := fun _ => hostFetch_fits _ _ _
theorem FormatWidth.wrDbgAddrLo (data : Word) : FormatWidth.Statement (.wrDbgAddrLo data) := fun _ => hostFetch_fits _ _ _
theorem FormatWidth.rdDbgAddrHi : FormatWidth.Statement .rdDbgAddrHi := fun _ => hostFetch_fits _ _ _
theorem FormatWidth.wrDbgAddrHi (data : Word) : FormatWidth.Statement (.wrDbgAddrHi data) := fun _ => hostFetch_fits _ _ _
theorem FormatWidth.rdP0Hsize : FormatWidth.Statement .rdP0Hsize := fun _ => hostFetch_fits _ _ _
theorem FormatWidth.wrP0Hsize (data : Word) : FormatWidth.Statement (.wrP0Hsize data) := fun _ => hostFetch_fits _ _ _
theorem FormatWidth.rdP0Top : FormatWidth.Statement .rdP0Top := fun _ => hostFetch_fits _ _ _
theorem FormatWidth.wrP0Top (data : Word) : FormatWidth.Statement (.wrP0Top data) := fun _ => hostFetch_fits _ _ _
theorem FormatWidth.rdP0Bot : FormatWidth.Statement .rdP0Bot := fun _ => hostFetch_fits _ _ _
theorem FormatWidth.wrP0Bot (data : Word) : FormatWidth.Statement (.wrP0Bot data) := fun _ => hostFetch_fits _ _ _
theorem FormatWidth.rdP0Hoff : FormatWidth.Statement .rdP0Hoff := fun _ => hostFetch_fits _ _ _
theorem FormatWidth.wrP0Hoff (data : Word) : FormatWidth.Statement (.wrP0Hoff data) := fun _ => hostFetch_fits _ _ _
theorem FormatWidth.rdP0Scan : FormatWidth.Statement .rdP0Scan := fun _ => hostFetch_fits _ _ _
theorem FormatWidth.wrP0Scan (data : Word) : FormatWidth.Statement (.wrP0Scan data) := fun _ => hostFetch_fits _ _ _
theorem FormatWidth.rdP1Hsize : FormatWidth.Statement .rdP1Hsize := fun _ => hostFetch_fits _ _ _
theorem FormatWidth.wrP1Hsize (data : Word) : FormatWidth.Statement (.wrP1Hsize data) := fun _ => hostFetch_fits _ _ _
theorem FormatWidth.rdP1Top : FormatWidth.Statement .rdP1Top := fun _ => hostFetch_fits _ _ _
theorem FormatWidth.wrP1Top (data : Word) : FormatWidth.Statement (.wrP1Top data) := fun _ => hostFetch_fits _ _ _
theorem FormatWidth.rdP1Bot : FormatWidth.Statement .rdP1Bot := fun _ => hostFetch_fits _ _ _
theorem FormatWidth.wrP1Bot (data : Word) : FormatWidth.Statement (.wrP1Bot data) := fun _ => hostFetch_fits _ _ _
theorem FormatWidth.rdP1Hoff : FormatWidth.Statement .rdP1Hoff := fun _ => hostFetch_fits _ _ _
theorem FormatWidth.wrP1Hoff (data : Word) : FormatWidth.Statement (.wrP1Hoff data) := fun _ => hostFetch_fits _ _ _
theorem FormatWidth.rdP1Scan : FormatWidth.Statement .rdP1Scan := fun _ => hostFetch_fits _ _ _
theorem FormatWidth.wrP1Scan (data : Word) : FormatWidth.Statement (.wrP1Scan data) := fun _ => hostFetch_fits _ _ _
theorem FormatWidth.reserved19 (write : Bool) (data : Word) : FormatWidth.Statement (.reserved19 write data) := fun _ => hostFetch_fits _ _ _
theorem FormatWidth.reserved1A (write : Bool) (low : BitVec 1) (data : Word) : FormatWidth.Statement (.reserved1A write low data) := fun _ => hostFetch_fits _ _ _
theorem FormatWidth.reserved1C (write : Bool) (low : BitVec 2) (data : Word) : FormatWidth.Statement (.reserved1C write low data) := fun _ => hostFetch_fits _ _ _
theorem FormatWidth.reserved25 (write : Bool) (data : Word) : FormatWidth.Statement (.reserved25 write data) := fun _ => hostFetch_fits _ _ _
theorem FormatWidth.reserved26 (write : Bool) (low : BitVec 1) (data : Word) : FormatWidth.Statement (.reserved26 write low data) := fun _ => hostFetch_fits _ _ _
theorem FormatWidth.reserved2D (write : Bool) (data : Word) : FormatWidth.Statement (.reserved2D write data) := fun _ => hostFetch_fits _ _ _
theorem FormatWidth.reserved2E (write : Bool) (low : BitVec 1) (data : Word) : FormatWidth.Statement (.reserved2E write low data) := fun _ => hostFetch_fits _ _ _
theorem FormatWidth.reserved30 (write : Bool) (low : BitVec 4) (data : Word) : FormatWidth.Statement (.reserved30 write low data) := fun _ => hostFetch_fits _ _ _
theorem FormatWidth.reserved40 (write : Bool) (low : BitVec 6) (data : Word) : FormatWidth.Statement (.reserved40 write low data) := fun _ => hostFetch_fits _ _ _
theorem FormatWidth.reserved80 (write : Bool) (low : BitVec 7) (data : Word) : FormatWidth.Statement (.reserved80 write low data) := fun _ => hostFetch_fits _ _ _
theorem FormatWidth.fmNop : FormatWidth.Statement .fmNop := fun _ => fmCmdFetch_fits _
theorem FormatWidth.fmInit : FormatWidth.Statement .fmInit := fun _ => fmCmdFetch_fits _
theorem FormatWidth.fmWrite : FormatWidth.Statement .fmWrite := fun _ => fmCmdFetch_fits _
theorem FormatWidth.fmRead : FormatWidth.Statement .fmRead := fun _ => fmCmdFetch_fits _
theorem FormatWidth.fmReserved4 (low : BitVec 2) : FormatWidth.Statement (.fmReserved4 low) := fun _ => fmCmdFetch_fits _
theorem FormatWidth.fmReserved8 (low : BitVec 3) : FormatWidth.Statement (.fmReserved8 low) := fun _ => fmCmdFetch_fits _
theorem FormatWidth.qwrite (addr : FmAddr) (data : List Byte) : FormatWidth.Statement (.qwrite addr data) := fun _ => trivial
theorem FormatWidth.qread (addr : FmAddr) (count : Nat) : FormatWidth.Statement (.qread addr count) := fun _ => trivial
theorem FormatWidth.dread (addr : FmAddr) (count : Nat) : FormatWidth.Statement (.dread addr count) := fun _ => trivial
theorem FormatWidth.rstioQ : FormatWidth.Statement .rstioQ := fun _ => trivial
theorem FormatWidth.rstioD : FormatWidth.Statement .rstioD := fun _ => trivial
theorem FormatWidth.rstioAny : FormatWidth.Statement .rstioAny := fun _ => trivial
theorem FormatWidth.edioS : FormatWidth.Statement .edioS := fun _ => trivial
theorem FormatWidth.eqioS : FormatWidth.Statement .eqioS := fun _ => trivial
theorem FormatWidth.evCsync : FormatWidth.Statement .evCsync := fun _ => eventFetch_fits _ _
theorem FormatWidth.evVsync : FormatWidth.Statement .evVsync := fun _ => eventFetch_fits _ _
theorem FormatWidth.evCmp : FormatWidth.Statement .evCmp := fun _ => eventFetch_fits _ _
theorem FormatWidth.evRefTick : FormatWidth.Statement .evRefTick := fun _ => eventFetch_fits _ _
theorem FormatWidth.evGenLine : FormatWidth.Statement .evGenLine := fun _ => eventFetch_fits _ _
theorem FormatWidth.evReset : FormatWidth.Statement .evReset := fun _ => eventFetch_fits _ _
theorem FormatWidth.evHostWr (addr : RegAddr) (data : Word) : FormatWidth.Statement (.evHostWr addr data) := fun _ => eventFetch_fits _ _
theorem FormatWidth.evHostRd (addr : RegAddr) : FormatWidth.Statement (.evHostRd addr) := fun _ => eventFetch_fits _ _
theorem FormatWidth.evXferDone : FormatWidth.Statement .evXferDone := fun _ => eventFetch_fits _ _
theorem FormatWidth.evPixStart : FormatWidth.Statement .evPixStart := fun _ => eventFetch_fits _ _
theorem FormatWidth.evStreamEnd : FormatWidth.Statement .evStreamEnd := fun _ => eventFetch_fits _ _
theorem FormatWidth.lineEvent : FormatWidth.Statement .lineEvent := fun _ => eventFetch_fits _ _
theorem FormatWidth.vsyncEvent (kind : SyncKind) (value : Bool) : FormatWidth.Statement (.vsyncEvent kind value) := fun _ => eventFetch_fits _ _
theorem FormatWidth.timeoutSwitch : FormatWidth.Statement .timeoutSwitch := fun _ => eventFetch_fits _ _
theorem FormatWidth.zonePreroll : FormatWidth.Statement .zonePreroll := fun _ => zoneFetch_fits _
theorem FormatWidth.zoneSetup : FormatWidth.Statement .zoneSetup := fun _ => zoneFetch_fits _
theorem FormatWidth.zoneModeswitch : FormatWidth.Statement .zoneModeswitch := fun _ => zoneFetch_fits _
theorem FormatWidth.zoneActive : FormatWidth.Statement .zoneActive := fun _ => zoneFetch_fits _
theorem FormatWidth.zoneTeardown : FormatWidth.Statement .zoneTeardown := fun _ => zoneFetch_fits _
theorem FormatWidth.zoneReserved5 : FormatWidth.Statement .zoneReserved5 := fun _ => zoneFetch_fits _
theorem FormatWidth.zoneReserved6 (low : BitVec 1) : FormatWidth.Statement (.zoneReserved6 low) := fun _ => zoneFetch_fits _

end Sys2Proof.Laws
end

