-- ==== Sys2Proof/Laws/Specs.lean ====
section
/-! SUPPORT. For each composed operation one lemma that says everything it can do. Later proofs cite these and do not unfold
the operation. -/

namespace Sys2Proof.Machine

/-! ### Interrupts -/

/-- The bit of every source as a number (R602). -/
@[simp] theorem intBit_values :
    intBit .vsync = 0x001 ∧ intBit .lockLost = 0x002 ∧ intBit .srcChg = 0x004 ∧ intBit .busClaim = 0x008 ∧
    intBit .fieldDone = 0x010 ∧ intBit .abort = 0x020 ∧ intBit .clamp = 0x040 ∧ intBit .cmdDone = 0x080 ∧
    intBit .cmdErr = 0x100 ∧ intBit .overrun = 0x200 := by decide

/-- Raising a source sets its bit and nothing else (R603). -/
theorem raiseInt_eq (n : IntSrc) (s : State) : raiseInt n s = { s with irq := irqAfter (intBit n) s } := rfl

/-- Raising never clears a bit (R603). -/
theorem raiseInt_mono (n : IntSrc) (s : State) (k : Nat) (h : s.irq.pend.getLsbD k = true) :
    (raiseInt n s).irq.pend.getLsbD k = true := by
  simp [raiseInt, BitVec.getLsbD_or, h]

/-- An acknowledge clears the written bits that were not raised in this cycle (R508, R603). -/
theorem ackInt_bit (v : BitVec 10) (s : State) (k : Nat) :
    (ackInt v s).irq.pend.getLsbD k =
      (s.irq.pend.getLsbD k && (decide (k < 10) && (!(v.getLsbD k && (decide (k < 10) &&
        !(raisedThisCycle s).getLsbD k))))) := by
  simp [ackInt, BitVec.getLsbD_and, BitVec.getLsbD_not]

/-- A refused command records its code and raises CMD_ERR (R601). -/
theorem cmdError_eq (code : ErrCode) (s : State) :
    cmdError code s = { s with arb := { s.arb with err := code }, irq := irqAfter 0x100 s } := rfl

/-! ### The device and the wires -/

/-- After RSTIO the device takes EDIO_S or EQIO_S, whatever mode it was in (R402, R411, R412, R413). -/
theorem devEnter_devRstio (m : DevMode) (s : State) :
    devEnter m (devRstio s) = { s with dev := { s.dev with mode := m } } := by
  simp [devEnter, devRstio]

/-- QuadToDual: RSTIO_Q, the toggles and EDIO_S; the device and FM_MODE end in DUAL (R411). -/
theorem quadToDual_eq (s : State) :
    quadToDual s = { s with
      arb := { s.arb with mode := .dual },
      dev := { s.dev with mode := .dual },
      trace := { s.trace with frames := switchFrames s .rstioQ 2 .edioS ++ s.trace.frames } } := by
  simp [quadToDual, devEnter_devRstio, sendFrames, pushFrame, switchFrames, frameClocks, Nat.add_mul]
  omega

/-- DualToQuad: RSTIO_D, the toggles and EQIO_S; the device and FM_MODE end in QUAD (R412). -/
theorem dualToQuad_eq (s : State) :
    dualToQuad s = { s with
      arb := { s.arb with mode := .quad },
      dev := { s.dev with mode := .quad },
      trace := { s.trace with frames := switchFrames s .rstioD 4 .eqioS ++ s.trace.frames } } := by
  simp [dualToQuad, devEnter_devRstio, sendFrames, pushFrame, switchFrames, frameClocks, Nat.add_mul]
  omega

/-- After a release no frame is on the wires at this cycle (R410, R313). -/
theorem currentWire_releaseWires (s : State) : currentWire (releaseWires s) = none := by
  unfold currentWire
  split
  · rename_i r hr
    have hs := List.find?_some hr
    have hm := List.mem_of_find?_eq_some hr
    replace hs := of_decide_eq_true hs
    simp only [releaseWires, List.mem_map] at hs hm
    obtain ⟨q, _, rfl⟩ := hm
    rw [if_neg]
    unfold WireRec.cutAt at hs ⊢
    simp only [releaseWires_sched]
    split at hs <;> rename_i hq
    · rw [if_pos hq]
      omega
    · rw [if_neg hq]
      simp only at hs ⊢
      omega
  · rfl

/-- The record on the wires is the newest that has started, while it runs. -/
theorem currentWire_append (s : State) (after before : List WireRec) (r : WireRec)
    (h : s.trace.frames = after ++ r :: before) (ha : ∀ q ∈ after, s.sched.clock < q.start)
    (h1 : r.start ≤ s.sched.clock) (h2 : s.sched.clock < r.stop) : currentWire s = some r := by
  have hf : after.find? (fun q => decide (q.start ≤ s.sched.clock)) = none := by
    simpa [List.find?_eq_none] using ha
  simp [currentWire, h, List.find?_append, hf, h1, h2]

/-- The record that was on the wires before it is the newest older one that started earlier. -/
theorem wireBefore_append (s : State) (after before : List WireRec) (r : WireRec)
    (h : s.trace.frames = after ++ r :: before) (ha : ∀ q ∈ after, s.sched.clock < q.start)
    (h1 : r.start ≤ s.sched.clock) : wireBefore s r = before.find? (fun q => decide (q.start < r.start)) := by
  have hd : s.trace.frames.dropWhile (fun q => decide (s.sched.clock < q.start)) = r :: before := by
    rw [h]
    clear h
    induction after with
    | nil => simp [Nat.not_lt.2 h1]
    | cons q rest ih =>
      rw [List.cons_append, List.dropWhile_cons_of_pos (by simpa using ha q (by simp))]
      exact ih (fun x hx => ha x (by simp [hx]))
  rw [wireBefore, hd, List.tail_cons]

/-- A frame's low period begins in its first `fm_sck` period, and not in its first cycle where it follows at once (R137,
R414). -/
theorem selectedAt_range (s : State) (r : WireRec) (h : 0 < r.div) :
    r.start ≤ selectedAt s r ∧ selectedAt s r ≤ r.start + r.div ∧
      (followsAtOnce s r = true ↔ r.start < selectedAt s r) := by
  have hm := Nat.mod_lt (Config.selectHigh r.start) h
  unfold selectedAt
  cases hf : followsAtOnce s r
  · simp
  · simp
    omega

/-- The release ends every frame of the record and touches nothing else. -/
theorem releaseWires_frames (s : State) : releaseWires s = { s with trace := { s.trace with frames := framesEnded s } } :=
  rfl

/-- The bytes that come in in a read frame, whoever drives them (R413, R42, R137). -/
theorem devReadBytes_eq (start m : DevMode) (k : Nat) (a : FmAddr) (n : Nat) (s : State) :
    devReadBytes start m k a n s = bytesIn s start m k a.toNat n := by
  unfold devReadBytes bytesIn
  cases s.dev.sio with
  | device =>
    by_cases h : start = m
    · simp only [h, if_true, memReadBytes]
      refine List.map_congr_left fun i _ => ?_
      cases memRead s.dev.mem ((a.toNat + i) % s.cfg.fmBytes) <;> rfl
    · simp [h]
  | lines levels =>
    refine List.map_congr_left fun i _ => ?_
    have hl : ∀ j, (sourceLine k levels j).toNat = dataLevel k levels j := by
      intro j
      unfold sourceLine dataLevel
      rw [List.getD_eq_getElem?_getD]
      cases levels[j]? <;> simp [BitVec.extractLsb'_toNat]
    unfold sourceByte
    split
    · apply BitVec.eq_of_toNat_eq
      have h0 := (sourceLine k levels (2 * i)).isLt
      have h1 := (sourceLine k levels (2 * i + 1)).isLt
      simp only [← hl, BitVec.toNat_append, BitVec.toNat_ofNat]
      rw [← Nat.shiftLeft_add_eq_or_of_lt h1, Nat.shiftLeft_eq]
      omega
    · apply BitVec.eq_of_toNat_eq
      simp only [← hl, BitVec.toNat_append, BitVec.toNat_ofNat, BitVec.extractLsb'_toNat, Nat.shiftRight_zero]
      have hm : ∀ j, (sourceLine k levels j).toNat % 2 ^ 2 < 2 ^ 2 := fun j => Nat.mod_lt _ (by decide)
      rw [← Nat.shiftLeft_add_eq_or_of_lt (hm _), ← Nat.shiftLeft_add_eq_or_of_lt (hm _),
        ← Nat.shiftLeft_add_eq_or_of_lt (hm _)]
      simp only [Nat.shiftLeft_eq]
      have a0 := hm (4 * i)
      have a1 := hm (4 * i + 1)
      have a2 := hm (4 * i + 2)
      have a3 := hm (4 * i + 3)
      omega

/-! ### Streams and zones -/

/-- Marking the streamed count keeps what every row record holds of its line (R312). -/
theorem markStreamed_addr (n : Nat) (l : List Row) : (markStreamed n l).map Row.addr = l.map Row.addr := by
  cases l <;> rfl

/-- Marking the streamed count keeps the pixels of every row record (R313). -/
theorem markStreamed_pixels (n : Nat) (l : List Row) : (markStreamed n l).map Row.pixels = l.map Row.pixels := by
  cases l <;> rfl

/-- Marking the streamed count keeps the number of rows. -/
theorem markStreamed_length (n : Nat) (l : List Row) : (markStreamed n l).length = l.length := by
  cases l <;> rfl

/-- The rows' record after a cut of the running row (R313). -/
theorem markStreamed_cut (s : State) : markStreamed (pixelsStreamed s) s.trace.rows = rowsCut s := by
  unfold markStreamed rowsCut pixelsStreamed
  cases s.trace.rows <;> rfl

/-- Everything the cut of a row does (R313). -/
theorem cutStream_eq (overrun : Bool) (s : State) :
    cutStream overrun s = { s with
      loe := { s.loe with streaming := false },
      ports := { s.ports with pixValid := false },
      irq := if overrun then irqAfter 0x200 s else s.irq,
      trace := { s.trace with rows := rowsCut s, frames := framesEnded s } } := by
  unfold cutStream stopStream
  rw [markStreamed_cut]
  cases overrun <;> rfl

/-- Everything a forced teardown does (R306). -/
theorem abortTeardown_spec (s : State) : Aborted s (abortTeardown s) := by
  unfold abortTeardown Aborted
  cases hs : s.loe.streaming <;> by_cases hm : s.arb.mode = .dual <;>
    simp [hm, hs, dualToQuad_eq, cutStream_eq, raiseInt_eq, irqAfter, switchFrames]

/-- The two outcomes of a pre-roll step (R301). -/
theorem prerollStep_cases (s : State) :
    (setupReady s = true ∧ prerollStep s = setupZone s) ∨ (setupReady s = false ∧ prerollStep s = s) := by
  unfold prerollStep
  cases setupReady s <;> simp

/-- The three outcomes of a mode-switch step (R303). -/
theorem switchStep_cases (s : State) :
    (s.loe.lastLine.toNat ≤ s.cnt.line.toNat ∧ switchStep s = teardown false s) ∨
    (s.cnt.line.toNat < s.loe.lastLine.toNat ∧ s.arb.xfer = true ∧ switchStep s = s) ∨
    (s.cnt.line.toNat < s.loe.lastLine.toNat ∧ s.arb.xfer = false ∧
      switchStep s = { quadToDual s with
        loe := { s.loe with first := true, hstart := hstartFor true s, zone := .modeswitch } }) := by
  unfold switchStep
  by_cases h : s.loe.lastLine.toNat ≤ s.cnt.line.toNat
  · simp [h]
  · cases hx : s.arb.xfer <;> simp [h, Nat.lt_of_not_le h]

/-- The two outcomes of an active step (R304). -/
theorem activeStep_cases (s : State) :
    (s.loe.lastLine.toNat ≤ s.cnt.line.toNat ∧ activeStep s = teardown true s) ∨
    (s.cnt.line.toNat < s.loe.lastLine.toNat ∧
      activeStep s = { emitRow s with
        loe := { (emitRow s).loe with
          addr := s.loe.addr + s.loe.stride.setWidth 24, first := false, hstart := hstartFor false s,
          zone := .active } }) := by
  unfold activeStep
  by_cases h : s.loe.lastLine.toNat ≤ s.cnt.line.toNat
  · simp [h]
  · simp [h, Nat.lt_of_not_le h]

/-- A line-output step is frozen by OUT_EN = 0; otherwise a running row is cut and the zone's rule runs (R300). -/
theorem loeStepIn_cases (z : Zone) (s : State) :
    (s.ctrl.outEn = false ∧ loeStepIn z s = s) ∨
    (s.ctrl.outEn = true ∧ s.loe.streaming = true ∧ loeStepIn z s = zoneStep z (cutStream true s)) ∨
    (s.ctrl.outEn = true ∧ s.loe.streaming = false ∧ loeStepIn z s = zoneStep z s) := by
  unfold loeStepIn
  cases s.ctrl.outEn <;> cases s.loe.streaming <;> simp

/-! ### Commands -/

/-- The commands that write FM_CMD can be (R403). -/
theorem fmCommand_cases (op : BitVec 4) (s : State) :
    fmCommand op s = nopCommand s ∨ (∃ k, fmCommand op s = issueCommand k s) ∨
      fmCommand op s = cmdError .badcmd s := by
  unfold fmCommand
  split
  · exact .inl rfl
  · exact .inr (.inl ⟨_, rfl⟩)
  · exact .inr (.inl ⟨_, rfl⟩)
  · exact .inr (.inl ⟨_, rfl⟩)
  · exact .inr (.inr rfl)

/-- An INIT, WRITE or READ is refused with a code or issued (R403). -/
theorem issueCommand_cases (k : XferKind) (s : State) :
    (∃ code, issueError k s = some code ∧ issueCommand k s = cmdError code s) ∨
    (issueError k s = none ∧ issueCommand k s = startTransfer k s) := by
  unfold issueCommand
  cases h : issueError k s with
  | some code => exact .inl ⟨code, rfl, rfl⟩
  | none => exact .inr ⟨rfl, rfl⟩

/-! ### Sync -/

/-- After `sync_out <- 1` no pulse is low at this cycle or later (R213). -/
theorem cutPulses_high (clock : Nat) (l : List Pulse) :
    ∀ p ∈ cutPulses clock l, ∀ n, ¬(p.start ≤ clock + n ∧ clock + n < p.stop) := by
  induction l with
  | nil => simp [cutPulses]
  | cons q rest ih =>
    intro p hp n
    simp only [cutPulses] at hp
    split at hp
    · rcases List.mem_cons.1 hp with rfl | hp
      · omega
      · exact ih p hp n
    · split at hp
      · rcases List.mem_cons.1 hp with rfl | hp
        · simp
        · exact ih p hp n
      · exact ih p hp n

/-! ### Scheduling -/

/-- The chosen event is a member of the list. -/
theorem firstDue_mem (l : List Due) (d : Due) (h : firstDue l = some d) : d ∈ l := by
  induction l generalizing d with
  | nil => simp [firstDue] at h
  | cons a rest ih =>
    simp only [firstDue] at h
    cases hr : firstDue rest with
    | none => rw [hr] at h; simp at h; simp [h]
    | some e =>
      rw [hr] at h
      simp only at h
      split at h <;> simp at h <;> subst h
      · simp
      · exact List.mem_cons_of_mem _ (ih _ hr)

end Sys2Proof.Machine
end

