-- ==== Sys2Proof/Tests/Slice0.lean ====
section
/-! SUPPORT. Tests. Expected results come from spec/95_test_vectors.md (named in each comment) or are worked out by hand
from the rules. First what each check refuses, then the decoder, then single operations, then for each statement a state
and operands that meet its hypotheses. -/

namespace Sys2Proof.Machine.Test

/-! ### States -/

/-- After reset, with the parameter set EX. -/
def bare : State := { State.reset with cfg := Cfg.synthetic, ctrl := Ctrl.atReset Cfg.synthetic }

/-- The start of the vectors of spec/95_test_vectors.md §3, at cycle 1000, after a field of 312 lines. -/
def ex : State :=
  { bare with
    ctrl := ⟨true, true, false, false⟩, prof0 := ⟨0, 30, 20, 600, false⟩,
    cnt := { bare.cnt with lastCount := 312 },
    arb := { bare.arb with ready := true, mode := .quad }, dev := { bare.dev with mode := .quad },
    sched := { bare.sched with clock := 1000 } }

/-- `s` at line `n` in a zone; the device and FM_MODE are in dual mode where the zone is. -/
def inZone (z : Zone) (n : BitVec 16) (s : State) : State :=
  { s with
    cnt := { s.cnt with line := n },
    loe := { s.loe with zone := z, busy := zoneBusy z, lastLine := 292, rw := 105, stride := 105, pixDiv := 7, wHoff := 600,
                        hstart := 600 },
    arb := { s.arb with mode := if z = .modeswitch ∨ z = .active then .dual else s.arb.mode },
    dev := { s.dev with mode := if z = .modeswitch ∨ z = .active then .dual else s.dev.mode } }

/-- `s` with a row on the wires: its stream runs from cycle 500 to 3440. -/
def rowOn (s : State) : State :=
  { s with
    loe := { s.loe with streaming := true },
    sched := { s.sched with pixDue := 500, endDue := 3440 },
    trace := { s.trace with
      rows := [⟨30, true, 0, [], 0⟩], frames := [⟨.dread 0 105, 0, 3440, 7, 500⟩] } }

/-- `s` on internal sync, at generator line `line` of a standard. -/
def onGen (std : Std) (line : BitVec 10) (s : State) : State :=
  { s with
    vstat := { s.vstat with srcExt := false, std := std },
    gen := { s.gen with running := true, std := std, line := line },
    ports := { s.ports with syncOe := true } }

/-- `s` on the comparator path with its last accepted edge at `t`. -/
def onCmp (t : Nat) (s : State) : State :=
  { s with ctrl := { s.ctrl with syncMode := true }, det := { s.det with capValid := true, capLast := t } }

/-- `s` at a cycle. -/
def atCycle (t : Nat) (s : State) : State := { s with sched := { s.sched with clock := t } }

/-- `s` with a command of a kind in progress, at FM_ADDR 0x69 with FM_LEN 3, issued as draw 7 to a device in quad mode. -/
def inXfer (k : XferKind) (s : State) : State :=
  { s with
    arb := { s.arb with xfer := true, kind := k, fmAddr := 0x69, fmLen := 3, buf := [(0, 0xAA), (1, 0x55), (2, 0x0F)] },
    sched := { s.sched with xferDue := 1028, xferDraw := 7, xferMode := .quad, draws := 8 } }

/-- `s` with transaction parameters. -/
def params (a : FmAddr) (n : BitVec 9) (s : State) : State :=
  { s with arb := { s.arb with fmAddr := a, fmLen := n } }

/-- EX with a csync filter of 100 cycles (V-EXT-11) and every P_HSTART_COMP at 2^17. -/
def extended : StatedParams := { StatedParams.default with extMinDelta := 100, hstartComp := List.replicate 8 131072 }

/-- A state with the parameters `extended`. -/
def wide (s : State) : State := { s with cfg := Cfg.make OpenParams.synthetic extended OpenParams.synthetic_ok (by decide) }

/-- What an operation leaves, if it completes. -/
def next? (i : Instr) (s : State) : Option State :=
  match exec i s with
  | .next t => some t
  | _ => none

/-- One part of what an operation leaves. -/
def see {α : Type} (f : State → α) (i : Instr) (s : State) : Option α := (next? i s).map f

/-- INT_PEND after an operation. -/
def pendAfter (i : Instr) (s : State) : Option (BitVec 10) := see (fun t => t.irq.pend) i s

/-- What a host read returns. -/
def readBack (i : Instr) (s : State) : Option Word := see (fun t => t.ports.hRdata) i s

/-! ### What each check of R11 refuses -/

theorem test_params_ok : OpenParams.synthetic.ok = true ∧ StatedParams.default.ok = true := by decide

theorem test_params_short_window : { OpenParams.synthetic with shortMin := 1991 }.ok = false := by decide

theorem test_params_long_window : { OpenParams.synthetic with longMin := 3981 }.ok = false := by decide

theorem test_params_windows_overlap : { OpenParams.synthetic with shortMax := 3700 }.ok = false := by decide

theorem test_params_same_patterns : { OpenParams.synthetic with patNtsc := 0xFF00 }.ok = false := by decide

theorem test_params_csync_both : { OpenParams.synthetic with csyncEdge := .both }.ok = false := by decide

theorem test_params_vsync_both : { OpenParams.synthetic with vsyncEdge := .both }.ok = false ∧
    { OpenParams.synthetic with cmpEdge := .both }.ok = true := by decide

theorem test_params_no_width : { OpenParams.synthetic with xsizes := [] }.ok = false := by decide

theorem test_params_nine_widths : { OpenParams.synthetic with xsizes := List.replicate 9 (4, 1) }.ok = false := by decide

theorem test_params_width_multiple : { OpenParams.synthetic with xsizes := [(422, 7)] }.ok = false := by decide

theorem test_params_width_bounds :
    { OpenParams.synthetic with xsizes := [(0, 7)] }.ok = false ∧
    { OpenParams.synthetic with xsizes := [(262144, 7)] }.ok = false ∧
    { OpenParams.synthetic with xsizes := [(262140, 7)] }.ok = true := by decide

theorem test_params_divider : { OpenParams.synthetic with xsizes := [(420, 0)] }.ok = false := by decide

theorem test_params_memory_size :
    { OpenParams.synthetic with fmBytes := 0 }.ok = false ∧
    { OpenParams.synthetic with fmBytes := 16777217 }.ok = false ∧
    { OpenParams.synthetic with fmBytes := 16777216 }.ok = true := by decide

theorem test_params_buffer_depth :
    { StatedParams.default with bufDepth := 0 }.ok = false ∧ { StatedParams.default with bufDepth := 257 }.ok = false := by
  decide

/-! ### What well-formedness refuses -/

theorem test_wf_qwrite : (Instr.qwrite 0 (List.replicate 257 0)).wf = false ∧
    (Instr.qwrite 0 (List.replicate 256 0)).wf = true := by decide +kernel

theorem test_wf_qread : (Instr.qread 0 257).wf = false ∧ (Instr.qread 0 256).wf = true := by decide

theorem test_wf_dread : (Instr.dread 0 65536).wf = false ∧ (Instr.dread 0 65535).wf = true := by decide

theorem test_inputs_one_access_per_cycle : inputsWf [⟨5, .host 0⟩, ⟨5, .host 1⟩] = false ∧
    inputsWf [⟨5, .host 0⟩, ⟨5, .rst⟩, ⟨6, .host 1⟩] = true := by decide

theorem test_inputs_in_order : inputsWf [⟨6, .rst⟩, ⟨5, .rst⟩] = false := by decide

/-! ### Decoding, words written out from spec/30_encoding.md -/

/-- The operation a word decodes to, with the command bytes of R136. -/
def decodedAs (f : Fetch) : Option Instr :=
  match decode CmdBytes.default f with
  | .ok i => some i
  | .error _ => none

/-- A HOSTREG access word `rw[24]`, `addr[23:16]`, `data[15:0]` (R120). -/
def host (word : BitVec 32) : Fetch := ⟨.hostreg, word, []⟩

/-- The read access of every register of R122. -/
theorem test_decode_reads :
    decodedAs (host 0x00000000) = some .rdCtrl ∧
    decodedAs (host 0x00010000) = some .rdVstat ∧
    decodedAs (host 0x00020000) = some .rdVstatSet ∧
    decodedAs (host 0x00030000) = some .rdVstatClr ∧
    decodedAs (host 0x00040000) = some .rdLine ∧
    decodedAs (host 0x00050000) = some .rdLastCount ∧
    decodedAs (host 0x00060000) = some .rdField ∧
    decodedAs (host 0x00070000) = some .rdElapsed ∧
    decodedAs (host 0x00080000) = some .rdIntPend ∧
    decodedAs (host 0x00090000) = some .rdIntEn ∧
    decodedAs (host 0x000A0000) = some .rdFmAddrLo ∧
    decodedAs (host 0x000B0000) = some .rdFmAddrHi ∧
    decodedAs (host 0x000C0000) = some .rdFmLen ∧
    decodedAs (host 0x000D0000) = some .rdFmCmd ∧
    decodedAs (host 0x000E0000) = some .rdFmStat ∧
    decodedAs (host 0x000F0000) = some .rdFmWdata ∧
    decodedAs (host 0x00100000) = some .rdFmBufptr ∧
    decodedAs (host 0x00110000) = some .rdFmRdata ∧
    decodedAs (host 0x00120000) = some .rdOutResW ∧
    decodedAs (host 0x00130000) = some .rdOutResH ∧
    decodedAs (host 0x00140000) = some .rdDbgSr ∧
    decodedAs (host 0x00150000) = some .rdDbgSrcnt ∧
    decodedAs (host 0x00160000) = some .rdDbgLastline ∧
    decodedAs (host 0x00170000) = some .rdDbgAddrLo ∧
    decodedAs (host 0x00180000) = some .rdDbgAddrHi ∧
    decodedAs (host 0x00200000) = some .rdP0Hsize ∧
    decodedAs (host 0x00210000) = some .rdP0Top ∧
    decodedAs (host 0x00220000) = some .rdP0Bot ∧
    decodedAs (host 0x00230000) = some .rdP0Hoff ∧
    decodedAs (host 0x00240000) = some .rdP0Scan ∧
    decodedAs (host 0x00280000) = some .rdP1Hsize ∧
    decodedAs (host 0x00290000) = some .rdP1Top ∧
    decodedAs (host 0x002A0000) = some .rdP1Bot ∧
    decodedAs (host 0x002B0000) = some .rdP1Hoff ∧
    decodedAs (host 0x002C0000) = some .rdP1Scan := by
  decide

/-- The write access of every register of R122. -/
theorem test_decode_writes :
    decodedAs (host 0x0100A5C3) = some (.wrCtrl 0xA5C3) ∧
    decodedAs (host 0x0101A5C3) = some (.wrVstat 0xA5C3) ∧
    decodedAs (host 0x0102A5C3) = some (.wrVstatSet 0xA5C3) ∧
    decodedAs (host 0x0103A5C3) = some (.wrVstatClr 0xA5C3) ∧
    decodedAs (host 0x0104A5C3) = some (.wrLine 0xA5C3) ∧
    decodedAs (host 0x0105A5C3) = some (.wrLastCount 0xA5C3) ∧
    decodedAs (host 0x0106A5C3) = some (.wrField 0xA5C3) ∧
    decodedAs (host 0x0107A5C3) = some (.wrElapsed 0xA5C3) ∧
    decodedAs (host 0x0108A5C3) = some (.wrIntPend 0xA5C3) ∧
    decodedAs (host 0x0109A5C3) = some (.wrIntEn 0xA5C3) ∧
    decodedAs (host 0x010AA5C3) = some (.wrFmAddrLo 0xA5C3) ∧
    decodedAs (host 0x010BA5C3) = some (.wrFmAddrHi 0xA5C3) ∧
    decodedAs (host 0x010CA5C3) = some (.wrFmLen 0xA5C3) ∧
    decodedAs (host 0x010DA5C3) = some (.wrFmCmd 0xA5C3) ∧
    decodedAs (host 0x010EA5C3) = some (.wrFmStat 0xA5C3) ∧
    decodedAs (host 0x010FA5C3) = some (.wrFmWdata 0xA5C3) ∧
    decodedAs (host 0x0110A5C3) = some (.wrFmBufptr 0xA5C3) ∧
    decodedAs (host 0x0111A5C3) = some (.wrFmRdata 0xA5C3) ∧
    decodedAs (host 0x0112A5C3) = some (.wrOutResW 0xA5C3) ∧
    decodedAs (host 0x0113A5C3) = some (.wrOutResH 0xA5C3) ∧
    decodedAs (host 0x0114A5C3) = some (.wrDbgSr 0xA5C3) ∧
    decodedAs (host 0x0115A5C3) = some (.wrDbgSrcnt 0xA5C3) ∧
    decodedAs (host 0x0116A5C3) = some (.wrDbgLastline 0xA5C3) ∧
    decodedAs (host 0x0117A5C3) = some (.wrDbgAddrLo 0xA5C3) ∧
    decodedAs (host 0x0118A5C3) = some (.wrDbgAddrHi 0xA5C3) ∧
    decodedAs (host 0x0120A5C3) = some (.wrP0Hsize 0xA5C3) ∧
    decodedAs (host 0x0121A5C3) = some (.wrP0Top 0xA5C3) ∧
    decodedAs (host 0x0122A5C3) = some (.wrP0Bot 0xA5C3) ∧
    decodedAs (host 0x0123A5C3) = some (.wrP0Hoff 0xA5C3) ∧
    decodedAs (host 0x0124A5C3) = some (.wrP0Scan 0xA5C3) ∧
    decodedAs (host 0x0128A5C3) = some (.wrP1Hsize 0xA5C3) ∧
    decodedAs (host 0x0129A5C3) = some (.wrP1Top 0xA5C3) ∧
    decodedAs (host 0x012AA5C3) = some (.wrP1Bot 0xA5C3) ∧
    decodedAs (host 0x012BA5C3) = some (.wrP1Hoff 0xA5C3) ∧
    decodedAs (host 0x012CA5C3) = some (.wrP1Scan 0xA5C3) := by
  decide

/-- The reserved rows of R520, at the first and last address of each, as a write and as a read. -/
theorem test_decode_reserved :
    decodedAs (host 0x0119BEEF) = some (.reserved19 true 0xBEEF) ∧
    decodedAs (host 0x001A0000) = some (.reserved1A false 0 0) ∧
    decodedAs (host 0x011B0001) = some (.reserved1A true 1 1) ∧
    decodedAs (host 0x011C0001) = some (.reserved1C true 0 1) ∧
    decodedAs (host 0x001F0000) = some (.reserved1C false 3 0) ∧
    decodedAs (host 0x00250000) = some (.reserved25 false 0) ∧
    decodedAs (host 0x01260009) = some (.reserved26 true 0 9) ∧
    decodedAs (host 0x00270000) = some (.reserved26 false 1 0) ∧
    decodedAs (host 0x012DFFFF) = some (.reserved2D true 0xFFFF) ∧
    decodedAs (host 0x002E0000) = some (.reserved2E false 0 0) ∧
    decodedAs (host 0x012F0002) = some (.reserved2E true 1 2) ∧
    decodedAs (host 0x0130FFFF) = some (.reserved30 true 0 0xFFFF) ∧
    decodedAs (host 0x003F0000) = some (.reserved30 false 15 0) ∧
    decodedAs (host 0x00400000) = some (.reserved40 false 0 0) ∧
    decodedAs (host 0x017F1234) = some (.reserved40 true 63 0x1234) ∧
    decodedAs (host 0x01800007) = some (.reserved80 true 0 7) ∧
    decodedAs (host 0x00FF0000) = some (.reserved80 false 127 0) := by
  decide

/-- The opcodes of R130; bits 15..4 of the write are ignored (R129). -/
theorem test_decode_fmcmd :
    decodedAs (⟨.fmcmd, 0x0000, []⟩) = some .fmNop ∧
    decodedAs (⟨.fmcmd, 0xABC1, []⟩) = some .fmInit ∧
    decodedAs (⟨.fmcmd, 0x0002, []⟩) = some .fmWrite ∧
    decodedAs (⟨.fmcmd, 0x0003, []⟩) = some .fmRead ∧
    decodedAs (⟨.fmcmd, 0x0004, []⟩) = some (.fmReserved4 0) ∧
    decodedAs (⟨.fmcmd, 0x0007, []⟩) = some (.fmReserved4 3) ∧
    decodedAs (⟨.fmcmd, 0x0008, []⟩) = some (.fmReserved8 0) ∧
    decodedAs (⟨.fmcmd, 0x000F, []⟩) = some (.fmReserved8 7) := by
  decide

/-- The frames of R137; the address bytes come most significant first (R85; V-WIRE-1: 02 00 00 69 AA 55 0F). -/
theorem test_decode_wire :
    decodedAs (⟨.wire .quad, 0x69000002, [0xAA, 0x55, 0x0F]⟩) = some (.qwrite 0x000069 [0xAA, 0x55, 0x0F]) ∧
    decodedAs (⟨.wire .quad, 0x0D6B0103, [0, 0]⟩) = some (.qread 0x016B0D 2) ∧
    decodedAs (⟨.wire .dual, 0x69000003, [0, 0, 0]⟩) = some (.dread 0x000069 3) ∧
    decodedAs (⟨.wire .quad, 0x000000FF, []⟩) = some .rstioQ ∧
    decodedAs (⟨.wire .dual, 0x000000FF, []⟩) = some .rstioD ∧
    decodedAs (⟨.wire .any, 0x000000FF, []⟩) = some .rstioAny ∧
    decodedAs (⟨.wire .single, 0x0000003B, []⟩) = some .edioS ∧
    decodedAs (⟨.wire .single, 0x00000038, []⟩) = some .eqioS := by
  decide

/-- The codes of R139. The operand bits of the last four are the model's own. -/
theorem test_decode_events :
    decodedAs (⟨.event, 0x01, []⟩) = some .evCsync ∧
    decodedAs (⟨.event, 0x02, []⟩) = some .evVsync ∧
    decodedAs (⟨.event, 0x03, []⟩) = some .evCmp ∧
    decodedAs (⟨.event, 0x04, []⟩) = some .evRefTick ∧
    decodedAs (⟨.event, 0x05, []⟩) = some .evGenLine ∧
    decodedAs (⟨.event, 0x06, []⟩) = some .evReset ∧
    decodedAs (⟨.event, 0x09, []⟩) = some .evXferDone ∧
    decodedAs (⟨.event, 0x0A, []⟩) = some .evPixStart ∧
    decodedAs (⟨.event, 0x0B, []⟩) = some .evStreamEnd ∧
    decodedAs (⟨.event, 0x10, []⟩) = some .lineEvent ∧
    decodedAs (⟨.event, 0x12, []⟩) = some .timeoutSwitch ∧
    decodedAs (⟨.event, 0x08002907, []⟩) = some (.evHostWr 0x08 0x0029) ∧
    decodedAs (⟨.event, 0x04000008, []⟩) = some (.evHostRd 0x04) ∧
    decodedAs (⟨.event, 0x00000211, []⟩) = some (.vsyncEvent .genuine true) ∧
    decodedAs (⟨.event, 0x00000111, []⟩) = some (.vsyncEvent .internal false) := by
  decide

/-- The ZONE values of R126. -/
theorem test_decode_zones :
    decodedAs (⟨.zone, 0, []⟩) = some .zonePreroll ∧
    decodedAs (⟨.zone, 1, []⟩) = some .zoneSetup ∧
    decodedAs (⟨.zone, 2, []⟩) = some .zoneModeswitch ∧
    decodedAs (⟨.zone, 3, []⟩) = some .zoneActive ∧
    decodedAs (⟨.zone, 4, []⟩) = some .zoneTeardown ∧
    decodedAs (⟨.zone, 5, []⟩) = some .zoneReserved5 ∧
    decodedAs (⟨.zone, 6, []⟩) = some (.zoneReserved6 0) ∧
    decodedAs (⟨.zone, 7, []⟩) = some (.zoneReserved6 1) := by
  decide

/-- Codes and bytes that R146 says never occur have no operation. -/
theorem test_decode_refuses :
    decodedAs ⟨.event, 0x00, []⟩ = none ∧ decodedAs ⟨.event, 0x0C, []⟩ = none ∧ decodedAs ⟨.event, 0x13, []⟩ = none ∧
    decodedAs ⟨.wire .dual, 0x02, []⟩ = none ∧ decodedAs ⟨.wire .single, 0x02, []⟩ = none ∧
    decodedAs ⟨.wire .quad, 0x38, []⟩ = none := by decide

/-- A table word runs as the next step (R136's command bytes): RD CTRL, EV_CSYNC. -/
theorem test_table_words :
    decodeTableWord 32 0x01210005 = some (.wrP0Top 5) ∧ decodeTableWord 8 0x01 = some .evCsync ∧
    decodeTableWord 8 0x3B = some .edioS ∧ decodeTableWord 16 0x0002 = some .fmWrite := by decide

/-! ### Single operations: the vectors of spec/95_test_vectors.md -/

/-- V-EXT-1, V-EXT-2. -/
theorem test_csync_counts_lines :
    see (fun t => (t.cnt.line, t.loe.zone)) .evCsync { ex with cnt := { ex.cnt with line := 41 } } = some (42, .preroll) ∧
    see (fun t => t.cnt.line) .evCsync { ex with cnt := { ex.cnt with line := 0xFFFF } } = some 0 := by decide

/-- V-EXT-3. -/
theorem test_csync_on_internal_sync :
    see (fun t => (t.cnt.line, t.det.csLast, t.det.csValid)) .evCsync
      (onGen .pal 9 (atCycle 500 { ex with cnt := { ex.cnt with line := 7 } })) = some (7, 500, true) := by decide

/-- V-EXT-11. -/
theorem test_csync_filter :
    see (fun t => t.cnt.line) .evCsync
      (wide (atCycle 1050 { ex with det := { ex.det with csLast := 1000, csValid := true } })) = some 0 ∧
    see (fun t => (t.cnt.line, t.det.csLast)) .evCsync
      (wide (atCycle 1100 { ex with det := { ex.det with csLast := 1000, csValid := true } })) = some (1, 1100) := by
  decide

/-- V-EXT-4. -/
theorem test_vsync_pal :
    see (fun t => (t.cnt, t.vstat.std, t.irq.pend)) .evVsync
      { ex with cnt := { ex.cnt with line := 312, elapsed := 57 } } =
      some (⟨0, 312, true, true, 0⟩, .pal, 0x001) := by decide

/-- V-EXT-5, V-EXT-6. -/
theorem test_vsync_threshold :
    see (fun t => t.vstat.std) .evVsync { ex with cnt := { ex.cnt with line := 299 } } = some .ntsc ∧
    see (fun t => t.vstat.std) .evVsync { ex with cnt := { ex.cnt with line := 300 } } = some .pal := by decide

/-- V-EXT-8. -/
theorem test_vsync_ends_internal_sync :
    see (fun t => (t.vstat.srcExt, t.gen.running, t.ports.syncOe, pinSyncOut t, t.cnt.lastCount, t.irq.pend)) .evVsync
      (onGen .pal 9 { ex with cnt := { ex.cnt with line := 120 }, trace := { ex.trace with pulses := [⟨900, 1200⟩] } }) =
      some (true, false, false, true, 120, 0x005) := by decide

/-- V-EXT-12, V-EXT-13. -/
theorem test_vsync_tears_down :
    see (fun t => (t.loe.busy, t.loe.zone, t.arb.mode, t.cnt.lastCount, t.irq.pend)) .evVsync (inZone .active 250 ex) =
      some (false, .preroll, .quad, 250, 0x021) ∧
    see (fun t => (t.loe.busy, t.loe.zone, t.arb.mode, t.irq.pend)) .evVsync
      (inZone .active 250 { ex with ctrl := { ex.ctrl with outEn := false } }) =
      some (true, .active, .dual, 0x001) := by decide

/-- V-CMP-1. -/
theorem test_cmp_first_edge :
    see (fun t => t.det) .evCmp (atCycle 5000 { ex with ctrl := { ex.ctrl with syncMode := true } }) =
      some ⟨0, 0, 5000, true, 0, false⟩ := by decide

/-- V-CMP-4: the eighth SHORT after eight LONG intervals completes the PAL pattern. -/
theorem test_cmp_pal_pattern :
    see (fun t => (t.det.sr, t.det.srCnt, t.vstat.std, t.cnt, t.irq.pend)) .evCmp
      (atCycle 2920 (onCmp 1000 { ex with
        det := { ex.det with sr := 0x7F80, srCnt := 16 }, vstat := { ex.vstat with std := .ntsc },
        cnt := { ex.cnt with line := 17 } })) =
      some (0xFF00, 0, .pal, ⟨0, 17, true, true, 0⟩, 0x001) := by decide

/-- V-CMP-9 to V-CMP-12: a line at the inclusive bound, and lock loss one cycle beyond it and at a half line. -/
theorem test_cmp_locked :
    [13840, 13960, 13961, 11920].map (fun at' => see (fun t => (t.cnt.line, t.cnt.vlock, t.det.sr, t.irq.pend)) .evCmp
      (atCycle at' (onCmp 10000 { ex with
        det := { ex.det with sr := 0xFFFF, srCnt := 16 },
        cnt := { ex.cnt with line := 40, vlock := true } }))) =
      [some (41, true, 0xFFFF, 0), some (41, true, 0xFFFF, 0), some (40, false, 0xFFFF, 0x002),
       some (40, false, 0xFFFE, 0x002)] := by decide

/-- V-CMP-13: the timestamp wraps. -/
theorem test_cmp_timestamp_wrap :
    see (fun t => t.cnt.line) .evCmp (atCycle (2 ^ 32 + 0x900) (onCmp 0xFFFFFA00 { ex with
      cnt := { ex.cnt with line := 9, vlock := true } })) = some 10 := by decide

/-- V-REF-2: the switch to internal sync, with the pulses of a PAL line B, B. -/
theorem test_tick_switches :
    see (fun t => (t.cnt, t.gen, t.vstat.srcExt, t.irq.pend, t.trace.pulses)) .evRefTick
      (atCycle 1000000 { ex with cnt := { ex.cnt with elapsed := 3099, line := 180, vlock := true } }) =
      some (⟨1, 180, true, false, 3100⟩, ⟨1003840, true, .pal, 1, 1003840⟩, false, 0x005,
        [⟨1001920, 1003558⟩, ⟨1000000, 1001638⟩]) := by decide

/-- V-REF-1, V-REF-4. -/
theorem test_tick_counts :
    see (fun t => (t.cnt.elapsed, t.vstat.srcExt)) .evRefTick { ex with cnt := { ex.cnt with elapsed := 3098 } } =
      some (3099, true) ∧
    see (fun t => t.cnt.elapsed) .evRefTick (onGen .pal 9 { ex with cnt := { ex.cnt with elapsed := 0xFFFF } }) =
      some 0xFFFF := by decide

/-- V-GEN-1: a plain line of the PAL frame. -/
theorem test_gen_plain_line :
    see (fun t => (t.gen.line, t.cnt.line, t.gen.next, t.trace.pulses)) .evGenLine
      (onGen .pal 100 { ex with cnt := { ex.cnt with line := 99 } }) = some (101, 100, 4840, [⟨1000, 1282⟩]) := by
  decide

/-- V-GEN-2 and V-GEN-4: the even field of PAL and the odd field of NTSC. -/
theorem test_gen_field_starts :
    see (fun t => (t.gen.line, t.cnt, t.trace.pulses)) .evGenLine
      (onGen .pal 312 { ex with cnt := { ex.cnt with line := 312, parity := true } }) =
      some (313, ⟨1, 312, false, false, 0⟩, [⟨2920, 4558⟩, ⟨1000, 1141⟩]) ∧
    see (fun t => (t.gen, t.cnt, t.trace.pulses)) .evGenLine
      (onGen .ntsc 3 { ex with cnt := { ex.cnt with line := 263 } }) =
      some (⟨0, true, .ntsc, 4, 4813⟩, ⟨1, 263, true, false, 0⟩, [⟨2906, 4532⟩, ⟨1000, 2626⟩]) := by decide

/-- V-GEN-9: EN 0→1 on internal sync restarts the generator without SRC_CHG. -/
theorem test_enable_restarts_generator :
    see (fun t => (t.gen.running, t.gen.line, t.gen.next, t.cnt.parity, t.cnt.line, t.irq.pend)) (.wrCtrl 0x0001)
      { ex with ctrl := { ex.ctrl with enable := false }, vstat := { ex.vstat with srcExt := false, std := .ntsc } } =
      some (true, 4, 4813, true, 1, 0x001) := by decide

/-- V-PAR-1: parity toggles at each genuine vertical sync. -/
theorem test_parity_toggles :
    see (fun t => t.cnt.parity) (.vsyncEvent .genuine false) ex = some true ∧
    see (fun t => t.cnt.parity) (.vsyncEvent .genuine false) { ex with cnt := { ex.cnt with parity := true } } =
      some false := by decide

/-- V-LOE-2: the setup at line 28. -/
theorem test_setup :
    see (fun t => (t.loe, t.irq.pend)) .lineEvent { ex with cnt := { ex.cnt with line := 27 } } =
      some (⟨.setup, true, 20, 0, 600, false, 292, 105, 105, 0, 0, false, false, 7⟩, 0x008) := by decide

/-- V-LOE-8: the last field's count clamps the field; V-LOE-11: the even field of an interlaced profile. -/
theorem test_setup_clamp_and_parity :
    see (fun t => (t.loe.lastLine, t.irq.pend)) .zonePreroll { ex with cnt := { ex.cnt with line := 28, lastCount := 280 } } =
      some (280, 0x048) ∧
    see (fun t => (t.loe.stride, t.loe.addr)) .zonePreroll
      { ex with cnt := { ex.cnt with line := 28 }, prof0 := { ex.prof0 with scan := true } } = some (210, 105) := by
  decide

/-- V-LOE-3: the mode switch; V-LOE-10: it waits for a transaction. -/
theorem test_mode_switch :
    see (fun t => (t.arb.mode, t.dev.mode, t.trace.frames.map (fun r => r.stop))) .zoneSetup (inZone .setup 29 ex) =
      some (.dual, .dual, [1020, 1004, 1004]) ∧
    see (fun t => (t.loe.first, t.loe.hstart, t.loe.zone)) .zoneSetup (inZone .setup 29 ex) =
      some (true, 600, .modeswitch) ∧
    see (fun t => t.loe.zone) .zoneSetup (inXfer .read (inZone .setup 29 ex)) = some .setup := by decide

/-- V-LOE-5 and V-LOE-13: a row at 0x006B0D; its pixels begin 0, 1, 2, 3, 3, 2, 1, 0. -/
theorem test_active_row :
    see (fun t => (t.trace.rows.map (fun r => (r.line, r.addr, r.pixels.length)), t.loe.addr)) .zoneActive
      (inZone .active 291 { ex with loe := { ex.loe with addr := 0x6B0D } }) = some ([(291, 0x6B0D, 420)], 0x6B76) ∧
    (unpack [0x1B, 0xE4]) = [0, 1, 2, 3, 3, 2, 1, 0] := by decide +kernel

/-- V-LOE-6: the teardown at line 292. -/
theorem test_teardown :
    see (fun t => (t.arb.mode, t.dev.mode, t.trace.frames.map (fun r => r.stop))) .zoneActive (inZone .active 292 ex) =
      some (.quad, .quad, [1024, 1008, 1008]) ∧
    see (fun t => (t.loe.busy, t.loe.zone, t.irq.pend)) .zoneActive (inZone .active 292 ex) =
      some (false, .teardown, 0x010) := by decide

/-- V-LOE-14: with OUT_EN = 0 only the line is counted. -/
theorem test_output_paused :
    see (fun t => (t.cnt.line, t.loe.addr, t.trace.rows)) .lineEvent
      { inZone .active 32 ex with ctrl := { ex.ctrl with outEn := false } } = some (33, 0, []) := by decide

/-- V-LOE-21 and V-LOE-23: when a row's pixels begin and end. -/
theorem test_stream_times :
    see (fun t => (t.sched.pixDue, t.sched.endDue)) .zoneActive (atCycle 0 (inZone .active 100 ex)) = some (600, 3540) ∧
    see (fun t => (t.sched.pixDue, t.sched.endDue)) .zoneActive
      { atCycle 0 (inZone .active 100 ex) with loe := { (inZone .active 100 ex).loe with hstart := 100 } } =
      some (140, 3080) := by decide

/-- V-LOE-22: a row still on the wires at the next line is cut after 334 of its pixels, with OVERRUN. -/
theorem test_overrun :
    see (fun t => ((t.trace.rows.map (fun r => r.streamed)).reverse.head?, t.irq.pend)) .zoneActive
      (rowOn (inZone .active 100 (atCycle 2844 ex))) = some (some 334, 0x200) := by decide

/-- V-LOE-24 to V-LOE-27: the output resolution. -/
theorem test_output_resolution :
    readBack .rdOutResW ex = some 0x01A4 ∧ readBack .rdOutResH ex = some 0x0106 ∧
    readBack .rdOutResH { ex with prof0 := { ex.prof0 with scan := true } } = some 0x020C ∧
    readBack .rdOutResH { ex with vstat := { ex.vstat with std := .ntsc } } = some 0x00D4 ∧
    readBack .rdOutResW { ex with prof0 := { ex.prof0 with hsizeSel := 5 } } = some 0 ∧
    readBack .rdOutResH { ex with prof0 := { ex.prof0 with top := 400 } } = some 0 := by decide

/-- V-FM-1: INIT is accepted and completes at +32. -/
theorem test_init :
    see (fun t => (t.arb.xfer, t.sched.xferDue, t.trace.frames.map (fun r => r.frame))) .fmInit bare =
      some (true, 32, [.eqioS, .rstioAny]) ∧
    see (fun t => (t.arb.xfer, t.arb.ready, t.arb.mode, t.dev.mode, t.irq.pend)) .evXferDone (inXfer .init bare) =
      some (false, true, .quad, .quad, 0x080) := by decide

/-- V-FM-2 and V-WIRE-1: a WRITE's frame and its bytes. -/
theorem test_write :
    see (fun t => (t.sched.xferDue, t.trace.frames.map (fun r => r.frame))) .fmWrite
      { inXfer .read ex with arb := { (inXfer .read ex).arb with xfer := false } } =
      some (1028, [.qwrite 0x69 [0xAA, 0x55, 0x0F]]) ∧
    see (fun t => (t.dev.mem, t.arb.bufPtr, t.irq.pend)) .evXferDone (inXfer .write ex) =
      some ([(0x69, 0xAA), (0x6A, 0x55), (0x6B, 0x0F)], 0, 0x080) := by decide

/-- V-FM-3: a READ takes 16 clocks and fills the buffer. -/
theorem test_read :
    see (fun t => t.sched.xferDue) .fmRead (params 0x69 3 ex) = some 1032 ∧
    see (fun t => t.arb.buf) .evXferDone
      { inXfer .read ex with dev := { ex.dev with mem := [(0x69, 1), (0x6A, 2), (0x6B, 3)] } } =
      some [(0, 1), (1, 2), (2, 3)] := by decide

/-- V-FM-6 to V-FM-15: the refusals and the two ranges at the end of the memory. -/
theorem test_command_checks :
    see (fun t => t.arb.err) .fmWrite (inZone .active 40 ex) = some .busy ∧
    see (fun t => t.arb.err) (.fmReserved4 3) (inXfer .write ex) = some .badcmd ∧
    see (fun t => t.arb.err) .fmWrite (inXfer .write (inZone .setup 40 ex)) = some .xfer ∧
    see (fun t => t.arb.err) .fmWrite bare = some .notready ∧
    see (fun t => t.arb.err) .fmWrite ex = some .len ∧
    see (fun t => t.arb.err) .fmRead (params 0 257 ex) = some .len ∧
    see (fun t => t.sched.xferDue) .fmWrite (params 0 256 ex) = some 2040 ∧
    see (fun t => t.arb.err) .fmWrite (params 0x1FFF0 16 ex) = some .ok ∧
    see (fun t => t.arb.err) .fmWrite (params 0x1FFF0 17 ex) = some .range ∧
    see (fun t => t.arb.err) .fmRead (params 0xFFFFFF 1 ex) = some .range := by decide +kernel

/-- V-FM-17: FM_STAT after a second command and the completion. -/
theorem test_fm_stat :
    readBack .rdFmStat { ex with arb := { ex.arb with err := .xfer } } = some 0x0024 ∧
    readBack .rdFmStat { inZone .active 40 ex with arb := { (inZone .active 40 ex).arb with err := .busy } } =
      some 0x001E := by decide

/-- V-WIRE-1, V-WIRE-3, V-WIRE-4: what the arbiter drives, clock by clock. -/
theorem test_wire_lines :
    frameNibbles CmdBytes.default (.qwrite 0x69 [0xAA, 0x55, 0x0F]) = [0, 2, 0, 0, 0, 0, 6, 9, 0xA, 0xA, 5, 5, 0, 0xF] ∧
    frameNibbles CmdBytes.default .edioS = [0, 0, 1, 1, 1, 0, 1, 1] ∧
    frameNibbles CmdBytes.default .rstioD = [3, 3, 3, 3] := by decide

/-- The device on a frame of another mode, and on RSTIO (R413). -/
theorem test_device_modes :
    see (fun t => t.dev.mode) .edioS { ex with dev := { ex.dev with mode := .single } } = some .dual ∧
    see (fun t => t.dev.mode) .rstioD (inZone .active 40 ex) = some .single ∧
    see (fun t => t.dev.mem) (.qwrite 0x1FFFF [1, 2]) ex = some [(0, 2), (0x1FFFF, 1)] ∧
    see (fun t => t.dev.mem) (.dread 0 1) { ex with dev := { ex.dev with mem := [(0, 2)] } } = some [] := by
  decide

/-- V-REG-1 to V-REG-3. -/
theorem test_vstat_writes :
    see vstatWord (.wrVstat 0x0A57) ex = some 0x0A55 ∧
    see vstatWord (.wrVstatSet 0x00F0) { ex with vstat := ⟨true, .pal, true, 5, 0xA⟩ } = some 0x0AF5 ∧
    see vstatWord (.wrVstatClr 0x0F04) { ex with vstat := ⟨true, .pal, true, 0xF, 0xA⟩ } = some 0x00F1 := by decide

/-- V-REG-5 and V-REG-18. -/
theorem test_status_words :
    readBack .rdField { inZone .active 40 ex with cnt := ⟨40, 312, true, true, 0⟩ } = some 0x002F ∧
    readBack .rdLine { ex with cnt := { ex.cnt with line := 41 } } = some 0x0029 := by decide

/-- V-REG-6 and V-REG-7: the acknowledge, and a raise of the same cycle. -/
theorem test_acknowledge :
    pendAfter (.wrIntPend 0x0001) { ex with irq := ⟨0x081, 0, 0x081, 999⟩ } = some 0x080 ∧
    pendAfter (.wrIntPend 0x0001) { ex with irq := ⟨0x001, 0, 0x001, 1000⟩ } = some 0x001 := by decide

/-- V-REG-8. -/
theorem test_irq : see pinIrq (.wrIntEn 0x0080) { ex with irq := ⟨0x080, 0, 0, 0⟩ } = some true := by decide

/-- V-REG-9. -/
theorem test_buffer_pointer_wraps :
    see (fun t => (t.arb.buf, t.arb.bufPtr)) (.wrFmWdata 0x12AB) { ex with arb := { ex.arb with bufPtr := 0xFF } } =
      some ([(255, 0xAB)], 0) := by decide

/-- V-REG-13 and V-REG-12: CTRL's bits, and SYNC_MODE on hardware without external sync pins. -/
theorem test_ctrl_write :
    see ctrlWord (.wrCtrl 0xFFF1) bare = some 0x0001 ∧
    see ctrlWord (.wrCtrl 0x0001) { bare with
      cfg := Cfg.make { OpenParams.synthetic with hasExtSync := false } StatedParams.default (by decide) (by decide),
      ctrl := ⟨false, false, true, false⟩ } = some 0x0005 := by decide

/-- V-REG-14 to V-REG-16. -/
theorem test_field_widths :
    see (fun t => t.prof0.top) (.wrP0Top 0xFFFF) ex = some 0x3FF ∧
    see (fun t => t.arb.fmLen) (.wrFmLen 0xFFFF) ex = some 0x1FF ∧
    see (fun t => t.arb.fmAddr) (.wrFmAddrHi 0xFF01) (params 0x6B0D 0 ex) = some 0x016B0D := by decide

/-- V-REG-17: a SYNC_MODE change. -/
theorem test_sync_mode_change :
    see (fun t => (t.det.sr, t.det.srCnt, t.det.capValid, t.cnt)) (.wrCtrl 0x0001)
      (onCmp 10 { ex with
        det := { ex.det with sr := 0xFF00, srCnt := 5 },
        cnt := ⟨9, 312, false, true, 4⟩ }) = some (0, 0, false, ⟨9, 312, false, false, 4⟩) := by decide

/-- V-RST-1 and V-RST-2. -/
theorem test_reset :
    see (fun t => (t.loe.zone, t.loe.busy, t.arb.mode, t.arb.ready, t.irq)) .evReset
      { inZone .active 40 ex with irq := ⟨0x019, 0x3FF, 0, 0⟩ } =
      some (.preroll, false, .unknown, false, ⟨0, 0, 0, 0⟩) ∧
    see vstatWord .evReset ex = some 0x0001 ∧ see ctrlWord .evReset ex = some 0x0000 := by decide

/-- V-FM-20: a reset during a WRITE: its three bytes lose their value, their neighbours keep it, nothing completes. -/
theorem test_reset_during_write :
    see (fun t => (t.dev.mem, t.arb.xfer, t.arb.ready, t.arb.mode, t.trace.frames.isEmpty)) .evReset
      { inXfer .write ex with dev := { ex.dev with mem := [(0x68, 1), (0x69, 2), (0x6B, 3), (0x6C, 4)] } } =
      some ([(0x68, 1), (0x6C, 4)], false, false, .unknown, true) := by decide

/-- R413: a reset during a READ that was sent while the device was in single mode leaves no byte of the memory its value; a
READ sent in quad mode and an INIT sent in any mode leave them all. -/
theorem test_reset_wrong_mode :
    (let sent := fun (k : XferKind) (m : DevMode) =>
      { inXfer k ex with
        dev := { ex.dev with mem := [(0x10, 1), (0x69, 2)] }, sched := { (inXfer k ex).sched with xferMode := m } }
     [sent .read .single, sent .write .dual, sent .read .quad, sent .init .dual].map
       (see (fun t => t.dev.mem) .evReset)) =
      [some [], some [], some [(0x10, 1), (0x69, 2)], some [(0x10, 1), (0x69, 2)]] := by decide

/-- R700 and R313: a reset at cycle 2844 during a row that has streamed from 500 on: 334 of its pixels have been streamed,
and no byte of the memory changes. -/
theorem test_reset_during_stream :
    see (fun t => (t.loe.streaming, t.trace.rows.map (fun r => r.streamed), t.dev.mem, pinFmCsN t)) .evReset
      (rowOn (inZone .active 100 (atCycle 2844 { ex with dev := { ex.dev with mem := [(0, 7)] } }))) =
      some (false, [334], [(0, 7)], true) := by decide

/-- 93_implementation_defined.md: DEV_MODE is a draw after a reset. -/
theorem test_reset_mode : see (fun t => t.dev.mode) .evReset (inXfer .write ex) = some (Config.drawMode 8) := rfl

/-- R145 at 60 MHz (spec/95_test_vectors.md §1): line 3840 and 3813, P_HS_W 282, P_EQ_W 141 and 138, P_BR_W 1638 and 1626;
a tie rounds up. -/
theorem test_default_widths :
    OpenParams.synthetic.genLineClks = ⟨3840, 3813⟩ ∧ OpenParams.synthetic.hsW = ⟨282, 282⟩ ∧
    OpenParams.synthetic.eqW = ⟨141, 138⟩ ∧ OpenParams.synthetic.brW = ⟨1638, 1626⟩ ∧ cyclesOfNanos 500 1000000 = 1 := by
  decide

/-- R137: `fm_cs_n` is 0 in all 8 clocks of RSTIO_ANY of an INIT issued at cycle 1000 (two cycles a clock), and EQIO_S starts
at its end (cycle 16). V-LOE-3, V-LOE-6: the frames of QuadToDual take 20 cycles and those of DualToQuad 24, with the second
following the first at once. -/
theorem test_frames_follow :
    see (fun t => [0, 13, 14, 15, 32].map (fun n => pinFmCsN (later n t))) .fmInit ex =
      some [false, false, false, false, true] ∧
    see (fun t => [15, 16, 17, 31].map (fun n => (currentWire (later n t)).map (followsAtOnce (later n t)))) .fmInit ex =
      some [some false, some true, some true, some true] ∧
    see (fun t => [0, 3, 4, 19, 20].map (fun n => (currentWire (later n t)).map (fun r => (r.frame, followsAtOnce (later n t) r))))
      .zoneSetup (inZone .setup 29 ex) =
      some [some (.rstioQ, false), some (.rstioQ, false), some (.edioS, true), some (.edioS, true), none] ∧
    see (fun t => [7, 8, 23, 24].map (fun n => (currentWire (later n t)).map (fun r => r.frame))) .zoneActive
      (inZone .active 292 ex) = some [some .rstioD, some .eqioS, some .eqioS, none] := by decide

/-- R137: EQIO_S of an INIT has `fm_cs_n = 1` in its first cycle and 0 from its second clock on. -/
theorem test_select_rises :
    ∀ t : State, next? .fmInit ex = some t → pinFmCsN (later 16 t) = true ∧ pinFmCsN (later 18 t) = false := by
  intro t h
  obtain rfl := Option.some.inj h
  have h16 : pinFmCsN (later 16 (startTransfer .init ex)) =
      !(true && decide (1016 + 1 + Config.selectHigh 1016 % 2 ≤ 1016)) := rfl
  have h18 : pinFmCsN (later 18 (startTransfer .init ex)) =
      !(true && decide (1016 + 1 + Config.selectHigh 1016 % 2 ≤ 1018)) := rfl
  refine ⟨h16.trans ?_, h18.trans ?_⟩ <;> simp <;> omega

/-- R313 and R414: a row read that starts in the cycle of an OVERRUN cut follows it at once; so does a WRITE accepted in the
cycle in which a frame ends (V-FM-22), and one accepted a cycle later does not. -/
theorem test_follows_a_cut :
    see (fun t => (currentWire t).map (fun r => (r.frame, followsAtOnce t r))) .zoneActive
      (rowOn (inZone .active 100 (atCycle 2844 ex))) = some (some (.dread 0 105, true)) ∧
    [1028, 1029].map (fun n => see (fun t => (currentWire t).map (followsAtOnce t)) .fmWrite (atCycle n { params 0 1 ex with
      trace := { ex.trace with frames := [⟨.qwrite 0x69 [1, 2, 3], 1000, 1028, 2, 1000⟩] } })) =
      [some (some true), some (some false)] := by decide

/-- A WRITE of one byte issued while the 12 clocks of a DualToQuad still run: its ten clocks are on the wires, and the rest of
the older frames is gone. -/
theorem test_newest_frame_wins :
    see (fun t => ((currentWire (later 19 t)).map (fun r => r.frame), currentWire (later 21 t))) .fmWrite
      (atCycle 1001 { params 0 1 ex with
        arb := { (params 0 1 ex).arb with buf := [(0, 9)] }, trace := { ex.trace with frames := switchFrames ex .rstioD 4 .eqioS } }) =
      some (some (.qwrite 0 [9]), none) := by decide

/-- R608: with something else than the device on `fm_sio_i`, a READ fills BUF with what it drives. -/
theorem test_dead_device :
    see (fun t => (t.arb.buf, t.dev.mem)) .evXferDone
      { inXfer .read ex with dev := { ex.dev with mem := [(0x69, 1)], sio := .lines [1, 2, 3, 4, 5, 6] } } =
      some ([(0, 0x12), (1, 0x34), (2, 0x56)], [(0x69, 1)]) ∧
    (match step { bare with inputs := [⟨5, .sio (.lines [9])⟩, ⟨5, .rst⟩] } with
     | .next t => some (t.dev.sio, t.inputs)
     | _ => none) = some (.lines [9], [⟨5, .rst⟩]) := by decide

/-- R413: a WRITE whose frame started in quad mode is stored, whatever mode an outside frame has put the device in since. -/
theorem test_mode_at_start :
    see (fun t => (t.dev.mem, t.dev.mode)) .evXferDone { inXfer .write ex with dev := { ex.dev with mode := .single } } =
      some ([(0x69, 0xAA), (0x6A, 0x55), (0x6B, 0x0F)], .single) := by decide

/-- V-INT-6: the vertical sync of a cycle is handled before its csync edge (R610); V-REG-19: a line before a read. -/
theorem test_order_in_a_cycle :
    (nextDue { bare with inputs := [⟨5, .csync false⟩, ⟨5, .vsync false⟩] }).map (fun d => d.input) = some (some 1) ∧
    (nextDue { bare with inputs := [⟨5, .host 0x0040000⟩, ⟨5, .csync false⟩] }).map (fun d => d.input) = some (some 1) := by
  decide

/-! ### The hypotheses of each statement are met -/

/-- Every operation of a list completes at `s`. -/
def completes (s : State) (l : List Instr) : Bool := l.all (fun i => (next? i s).isSome)

/-- DecodeEncodeAgree. -/
theorem witness_DecodeEncodeAgree : CmdBytes.default.distinct = true ∧ (⟨5, 3, 3, 4, 0xFF⟩ : CmdBytes).distinct = true := by
  decide

/-- EncodeDecodeAgree: a write, a read of data 0, and reads of the first and last reserved addresses. -/
theorem witness_EncodeDecodeAgree :
    (0x1000003#25).getLsbD 24 = true ∧ (0x0040000#25).extractLsb' 0 16 = 0 ∧
    regOf ((0x0190005#25).extractLsb' 16 8) = none ∧ regOf ((0x0FF0005#25).extractLsb' 16 8) = none := by decide

/-- StepRunsDecoded: a held word, a due stimulus, an edge that is not the active one, nothing due, a table word. -/
theorem witness_StepRunsDecoded :
    ({ ex with held := some ⟨.event, 0x10, []⟩ } : State).held = some ⟨.event, 0x10, []⟩ ∧
    decodedAs ⟨.event, 0x10, []⟩ = some .lineEvent ∧
    (nextDue { bare with inputs := [⟨5, .csync false⟩] }).map (fun d => d.fetch.map decodedAs) =
      some (some (some .evCsync)) ∧
    (nextDue { bare with inputs := [⟨5, .csync true⟩] }).map (fun d => d.fetch) = some none ∧
    nextDue bare = none ∧ bare.held = none ∧ ex.cfg.cmds = CmdBytes.default ∧
    decodeTableWord 32 0x01000003 = some (.wrCtrl 3) := by decide

/-- NextDueIsFirst: two pending events of one cycle; an edge that is not the active one, and a new source of `fm_sio_i`. -/
theorem witness_NextDueIsFirst :
    (nextDue { bare with inputs := [⟨5, .csync true⟩] }).map (fun d => (d.fetch, d.source)) = some (none, none) ∧
    (nextDue { bare with inputs := [⟨5, .rst⟩, ⟨5, .sio .device⟩] }).map (fun d => (d.fetch, d.source)) =
      some (none, some .device) ∧
    (nextDue { ex with inputs := [⟨5, .host 0⟩, ⟨5, .cmp false⟩, ⟨2000, .rst⟩] }).map (fun d => (d.time, d.rank)) =
      some (1000, 6) := by
  decide

/-- OutputResolution, PrerollAndSetup, FieldEmitsItsRows: the selected profile and the line limit. -/
theorem witness_selected_profile :
    ex.prof0 = (if ex.ctrl.profSel then ex.prof1 else ex.prof0) ∧
    292 = (match ex.vstat.std with | .pal => ex.cfg.lines.pal | .ntsc => ex.cfg.lines.ntsc) - ex.prof0.bot.toNat := by
  decide

/-- BufferReadPort, BufferWritePort, TransferParameters, InitCompletes: XFER is 0 in one state and 1 in another. -/
theorem witness_xfer : ex.arb.xfer = false ∧ (inXfer .write ex).arb.xfer = true ∧ (0x10 : RegAddr) ≠ 0x11 ∧
    (0x12 : RegAddr) ≠ 0x11 := by decide

/-- ControlWrite: EN kept, and EN 0→1 on external and on internal sync. -/
theorem witness_ControlWrite :
    (0x0001 : Word).getLsbD 0 = ex.ctrl.enable ∧ bare.ctrl.enable = false ∧ (0x0005 : Word).getLsbD 0 = true ∧
    bare.vstat.srcExt = true ∧
    ({ bare with vstat := { bare.vstat with srcExt := false } } : State).vstat.srcExt = false := by decide

/-- ControlDisable: in a zone that holds the bus with OUT_EN = 0, and in one that does not. -/
theorem witness_ControlDisable :
    ex.ctrl.enable = true ∧ (0x0002 : Word).getLsbD 0 = false ∧ ¬ holdsBus ex.loe.zone ∧
    (let s := { inZone .active 40 ex with ctrl := ⟨true, false, false, false⟩ }
     s.ctrl.enable = true ∧ holdsBus s.loe.zone) := by decide

/-- VideoStatusWrites: VSTAT's value, and the read that shows it. -/
theorem witness_VideoStatusWrites :
    (0x0001 : Word) = BitVec.ofNat 16 (ex.vstat.srcExt.toNat + (match ex.vstat.std with | .pal => 0 | .ntsc => 2) +
      4 * ex.vstat.actIn.toNat + 16 * ex.vstat.vref0.toNat + 256 * ex.vstat.vref1.toNat) ∧
    exec .rdVstat ex = .next (afterRead 0x01 0x0001 ex) := ⟨by decide, by rfl⟩

/-- PendingStays: a bit that a write of its own bit clears, and one that stays. -/
theorem witness_PendingStays :
    ∃ t : State, exec (.wrIntPend 0x0001) { ex with irq := ⟨0x081, 0, 0, 0⟩ } = .next t ∧
      (0x081 : BitVec 10).getLsbD 0 = true ∧ t.irq.pend.getLsbD 0 = false ∧ t.irq.pend.getLsbD 7 = true :=
  ⟨_, rfl, by decide⟩

/-- CommandRefusals: each clause, at the ends of its range. -/
theorem witness_CommandRefusals :
    ex.arb.xfer = false ∧ ex.loe.busy = false ∧ ex.arb.ready = true ∧ bare.arb.ready = false ∧
    (inXfer .write ex).arb.xfer = true ∧ (inZone .setup 29 ex).loe.busy = true ∧ (inZone .setup 29 ex).arb.xfer = false ∧
    (params 0 0 ex).arb.fmLen = 0 ∧ ex.cfg.bufDepth < (params 0 257 ex).arb.fmLen.toNat ∧
    (let s := params 0x1FFFF 2 ex
     s.arb.xfer = false ∧ s.loe.busy = false ∧ s.arb.ready = true ∧ s.arb.fmLen ≠ 0 ∧
       s.arb.fmLen.toNat ≤ s.cfg.bufDepth ∧ s.cfg.fmBytes < s.arb.fmAddr.toNat + s.arb.fmLen.toNat) ∧
    (let s := params 0x20000 1 ex
     s.arb.fmLen ≠ 0 ∧ s.cfg.fmBytes < s.arb.fmAddr.toNat + s.arb.fmLen.toNat) := by decide

/-- InitIssue: a device that is not ready. -/
theorem witness_InitIssue : bare.arb.xfer = false ∧ bare.loe.busy = false := by decide

/-- TransferIssue: one byte at the last address, and the whole buffer at the first. -/
theorem witness_TransferIssue :
    (∀ s ∈ [params 0x1FFFF 1 ex, params 0 256 ex], s.arb.xfer = false ∧ s.loe.busy = false ∧ s.arb.ready = true ∧
      1 ≤ s.arb.fmLen.toNat ∧ s.arb.fmLen.toNat ≤ s.cfg.bufDepth ∧
      s.arb.fmAddr.toNat + s.arb.fmLen.toNat ≤ s.cfg.fmBytes) := by decide

/-- AcceptanceIsChecked. -/
theorem witness_AcceptanceIsChecked :
    ∃ t : State, exec .fmWrite (params 0x1FFFF 1 ex) = .next t ∧ (params 0x1FFFF 1 ex).arb.xfer = false ∧
      t.arb.xfer = true := ⟨_, rfl, by decide⟩

/-- InitCompletes, WriteCompletes, ReadCompletes: each kind, with the transfer ending at the memory's last byte. -/
theorem witness_Completions :
    (inXfer .init bare).arb.xfer = true ∧ (inXfer .init bare).arb.kind = .init ∧
    (∀ k ∈ [XferKind.write, XferKind.read],
      let s := params 0x1FFFD 3 (inXfer k ex)
      s.arb.xfer = true ∧ s.arb.kind = k ∧ s.arb.kind ≠ .init ∧ s.sched.xferMode = .quad ∧ s.dev.sio = .device ∧
        s.arb.fmLen.toNat ≤ s.cfg.bufDepth ∧ s.arb.fmAddr.toNat + s.arb.fmLen.toNat ≤ s.cfg.fmBytes) ∧
    (∀ k ∈ [XferKind.write, XferKind.read],
      let s := { inXfer k ex with sched := bare.sched }
      s.arb.xfer = true ∧ s.arb.kind = k ∧ s.arb.kind ≠ .init ∧ s.sched.xferMode ≠ .quad ∧
        s.arb.fmLen.toNat ≤ s.cfg.bufDepth) := by decide

/-- DeviceFrames and WrongModeFrames: each mode. -/
theorem witness_DeviceFrames :
    ex.dev.mode = .quad ∧ ([0xAA, 0x55] : List Byte).length ≤ ex.cfg.fmBytes ∧ (inZone .active 40 ex).dev.mode = .dual ∧
    bare.dev.mode = .single ∧ bare.dev.mode ≠ .quad ∧ ex.dev.mode ≠ .dual ∧ ex.dev.mode ≠ .single := by decide

/-- EnableGate, CsyncEdge, VsyncEdge: EN = 0; the comparator selected; an edge below and one at P_EXT_MIN_DELTA, and the
first edge. -/
theorem witness_CsyncEdge :
    bare.ctrl.enable = false ∧ (onCmp 0 ex).ctrl.syncMode = true ∧ ex.ctrl.enable = true ∧ ex.ctrl.syncMode = false ∧
    (let s := wide (atCycle 1099 { ex with det := { ex.det with csLast := 1000, csValid := true } })
     s.det.csValid = true ∧
       (s.sched.clock % 2 ^ s.cfg.tsW + 2 ^ s.cfg.tsW - s.det.csLast % 2 ^ s.cfg.tsW) % 2 ^ s.cfg.tsW < s.cfg.extMinDelta) ∧
    (let s := wide (atCycle 1100 { ex with det := { ex.det with csLast := 1000, csValid := true } })
     s.det.csValid = true ∧ s.vstat.srcExt = true ∧
       s.cfg.extMinDelta ≤ (s.sched.clock % 2 ^ s.cfg.tsW + 2 ^ s.cfg.tsW - s.det.csLast % 2 ^ s.cfg.tsW) % 2 ^ s.cfg.tsW) ∧
    ex.det.csValid = false ∧ (onGen .pal 9 ex).vstat.srcExt = false ∧ (onGen .pal 9 ex).ctrl.syncMode = false := by
  decide

/-- The interval an edge at the cycle of `s` has. -/
def interval (s : State) : Nat :=
  (s.sched.clock % 2 ^ s.cfg.tsW + 2 ^ s.cfg.tsW - s.det.capLast % 2 ^ s.cfg.tsW) % 2 ^ s.cfg.tsW

/-- ComparatorEdgeFiltered: the external path selected, the first edge, the last interval of the settle window and the last
below P_MIN_DELTA. -/
theorem witness_ComparatorEdgeFiltered :
    ex.ctrl.syncMode = false ∧ ({ onCmp 0 ex with det := ex.det } : State).det.capValid = false ∧
    (onCmp 601 ex).det.capValid = true ∧ interval (onCmp 601 ex) = 399 ∧ interval (onCmp 601 ex) < ex.cfg.settle ∧
    interval (onCmp 501 ex) = 499 ∧ interval (onCmp 501 ex) < ex.cfg.minDelta := by decide

/-- ComparatorEdgeAccepted: the first accepted interval; locked edges at both inclusive bounds and just outside them; an
unlocked edge. -/
theorem witness_ComparatorEdgeAccepted :
    interval (onCmp 500 ex) = 500 ∧ ex.cfg.settle ≤ 500 ∧ ex.cfg.minDelta ≤ 500 ∧ (onCmp 500 ex).cnt.vlock = false ∧
    (∀ d ∈ [3720, 3960], let s := atCycle (5000 + d) (onCmp 5000 { ex with cnt := { ex.cnt with vlock := true } })
      s.cnt.vlock = true ∧ interval s ≤ s.cfg.lineIvl + s.cfg.lineTol ∧ s.cfg.lineIvl ≤ interval s + s.cfg.lineTol) ∧
    (∀ d ∈ [3719, 3961], let s := atCycle (5000 + d) (onCmp 5000 { ex with cnt := { ex.cnt with vlock := true } })
      s.cfg.settle ≤ interval s ∧ s.cfg.minDelta ≤ interval s ∧
        (s.cfg.lineIvl + s.cfg.lineTol < interval s ∨ interval s + s.cfg.lineTol < s.cfg.lineIvl)) := by decide

/-- ReferenceTick: EN = 0; the tick that switches, the one before it, and one on internal sync. -/
theorem witness_ReferenceTick :
    bare.ctrl.enable = false ∧ ex.ctrl.enable = true ∧ ex.vstat.srcExt = true ∧
    ex.cfg.intTimeout ≤ (3099#16 + 1).toNat ∧ ¬ ex.cfg.intTimeout ≤ (3098#16 + 1).toNat ∧
    (onGen .pal 9 ex).vstat.srcExt = false := by decide

/-- GeneratedLine: EN = 0 or GEN_ON = 0, and a running generator at the last line of each frame and before each field. -/
theorem witness_GeneratedLine :
    bare.ctrl.enable = false ∧ ex.gen.running = false ∧
    (∀ p ∈ [(Std.pal, 625, 1), (.pal, 312, 313), (.pal, 100, 101), (.ntsc, 525, 1), (.ntsc, 3, 4), (.ntsc, 265, 266)],
      let s := onGen p.1 (BitVec.ofNat 10 p.2.1) ex
      s.ctrl.enable = true ∧ s.gen.running = true ∧
        p.2.2 = s.gen.line.toNat % (match s.gen.std with | .pal => 625 | .ntsc => 525) + 1) := by decide

/-- VerticalSync: a zone that holds the bus, with OUT_EN = 1 and with OUT_EN = 0, on external and on internal sync. -/
theorem witness_VerticalSync :
    holdsBus (inZone .setup 9 ex).loe.zone ∧ (inZone .setup 9 ex).ctrl.outEn = true ∧ bare.ctrl.outEn = false ∧
    ex.vstat.srcExt = true ∧ (onGen .ntsc 3 ex).vstat.srcExt = false := by decide

/-- OutputFrozen, ReservedZonesStop, OverrunCutsRow. -/
theorem witness_OutputFrozen :
    bare.ctrl.outEn = false ∧ ex.ctrl.outEn = true ∧ ex.loe.streaming = false ∧ (rowOn ex).loe.streaming = true ∧
    (rowOn ex).ctrl.outEn = true := by decide

/-- PrerollAndSetup: the line before the mode-switch line, TOP at its least value, and the line before that. -/
theorem witness_PrerollAndSetup :
    (let s := { ex with prof0 := { ex.prof0 with top := 3 }, cnt := { ex.cnt with line := 1 } }
     s.ctrl.outEn = true ∧ s.loe.streaming = false ∧ 3 ≤ s.prof0.top.toNat ∧ s.cnt.line.toNat + 2 = s.prof0.top.toNat ∧
       s.arb.ready = true ∧ s.cfg.xsizes[s.prof0.hsizeSel.toNat]? = some (420, 7)) ∧
    (let s := { ex with prof0 := { ex.prof0 with top := 2 } }
     s.cnt.line.toNat + 2 = s.prof0.top.toNat ∧ ¬ 3 ≤ s.prof0.top.toNat) ∧
    ¬ ({ ex with prof0 := { ex.prof0 with hsizeSel := 4 } } : State).prof0.hsizeSel.toNat < ex.cfg.xsizes.length := by
  decide

/-- ModeSwitchStep, ActiveRow and ActiveTeardown: the line before LAST_LINE and LAST_LINE itself. -/
theorem witness_ModeSwitchStep :
    (∀ z ∈ [Zone.setup, .modeswitch, .active],
      (inZone z 291 ex).ctrl.outEn = true ∧ (inZone z 291 ex).loe.streaming = false ∧ (inZone z 291 ex).arb.xfer = false ∧
      (inZone z 291 ex).cnt.line.toNat < (inZone z 291 ex).loe.lastLine.toNat ∧
      (inZone z 292 ex).loe.lastLine.toNat ≤ (inZone z 292 ex).cnt.line.toNat) ∧
    (inXfer .read (inZone .setup 291 ex)).arb.xfer = true ∧
    (∀ f : Bool, (inZone .setup 291 ex).loe.wHoff.toNat + ex.cfg.comp f ex.cnt.vlock ex.vstat.srcExt < 2 ^ 17) ∧
    (inZone .active 291 ex).dev.mode = .dual ∧
    ({ inZone .active 291 ex with dev := ex.dev } : State).dev.mode ≠ .dual := by decide

/-- HstartOverflowIsFree: the least sum that 17 bits cannot hold. -/
theorem witness_HstartOverflowIsFree :
    (∀ z ∈ [Zone.setup, .modeswitch, .active],
      let s := { wide (inZone z 291 ex) with loe := { (inZone z 291 ex).loe with wHoff := 0 } }
      s.ctrl.outEn = true ∧ s.loe.streaming = false ∧ s.cnt.line.toNat < s.loe.lastLine.toNat ∧ s.arb.xfer = false ∧
      s.loe.wHoff.toNat + s.cfg.comp true s.cnt.vlock s.vstat.srcExt = 2 ^ 17 ∧
      s.loe.wHoff.toNat + s.cfg.comp false s.cnt.vlock s.vstat.srcExt = 2 ^ 17) := by decide

/-- A state with one frame on the wires since cycle 1000, of 16 clocks of two cycles. -/
def sending (f : Frame) : State :=
  { ex with trace := { ex.trace with frames := [⟨f, 1000, 1032, 2, 1000⟩] } }

/-- StreamEvents: with a row on the wires and without; a row with a pixel; a frame of each mode, RSTIO_ANY in its last clock,
the header, the pause and the data of a row read, a byte of a QREAD; and no frame running. -/
theorem witness_StreamEvents :
    (rowOn ex).loe.streaming = true ∧ ex.loe.streaming = false ∧
    (let s := { rowOn ex with
       ports := { ex.ports with pixValid := true }, loe := { (rowOn ex).loe with pixDiv := 7 },
       trace := { ex.trace with rows := [⟨30, true, 0, List.replicate 420 2, 0⟩] } }
     (s.trace.rows.map (fun r => r.pixels[(s.sched.clock - s.sched.pixDue) / s.loe.pixDiv]?)) = [some 2]) ∧
    (∀ f ∈ [Frame.qwrite 0x69 [1], .qread 0x69 1, .rstioQ, .rstioD, .rstioAny, .edioS, .eqioS],
      ∀ r ∈ (sending f).trace.frames, r.start ≤ (sending f).sched.clock ∧ (sending f).sched.clock < r.stop ∧ 0 < r.div ∧
        r.resume = r.start) ∧
    FrameDrives CmdBytes.default .rstioAny .quad [255, 255, 255, 255] ∧
    (∀ c ∈ [100, 400, 500, 3439], ∀ r ∈ (rowOn (atCycle c ex)).trace.frames, r.start ≤ c ∧ c < r.stop ∧ 0 < r.div) ∧
    (100 - 0) / 7 < 16 + ex.cfg.dummyDual ∧ 16 + ex.cfg.dummyDual ≤ (400 - 0) / 7 ∧
    (1020 - 1000) / 2 = 8 + ex.cfg.dummyQuad + 0 ∧
    (bytesIn { ex with dev := { ex.dev with mem := [(0x69, 0xA5)] } } .quad .quad 7 0x69 1)[0 / 2]? = some 0xA5 ∧
    (∀ q ∈ (sending .edioS).trace.frames, q.start ≤ 1032 → q.stop ≤ 1032) :=
  ⟨by decide, by decide, by decide, by decide, .rstioAny, by decide, by decide, by decide, by decide, by decide, by decide⟩

/-- StreamEvents: a frame that starts at another's end, one that does not, and the toggles of a mode switch. -/
theorem witness_StreamEvents_select :
    StartsAtAnEnd [⟨.rstioAny, 1000, 1016, 2, 1000⟩] ⟨.eqioS, 1016, 1032, 2, 1016⟩ ∧
    ¬StartsAtAnEnd [⟨.rstioAny, 1000, 1016, 2, 1000⟩] ⟨.eqioS, 1017, 1033, 2, 1017⟩ ∧
    (∀ m, (⟨.toggles 3, 1006, 1012, 2, 1006⟩ : WireRec).frame = .toggles m ↔ m = 3) := by
  refine ⟨⟨[], [], _, rfl, by simp, by decide, by decide, by simp⟩, ?_, ?_⟩
  · rintro ⟨between, older, q, h, _, _, hq, _⟩
    cases between with
    | nil => cases h; revert hq; decide
    | cons a l => simp at h
  · intro m
    simp [eq_comm]

/-- FieldEmitsItsRows: LAST_LINE below the mode-switch line (a last field of 20 lines) meets the same hypotheses. -/
theorem witness_FieldEmitsItsRows_short :
    let s := { ex with cnt := { ex.cnt with line := 27, lastCount := 20 } }
    s.ctrl.outEn = true ∧ s.loe.zone = .preroll ∧ s.loe.streaming = false ∧ s.arb.xfer = false ∧ s.arb.ready = true ∧
    s.cfg.xsizes[s.prof0.hsizeSel.toNat]? = some (420, 7) ∧ s.cnt.line.toNat + 3 = s.prof0.top.toNat ∧
    min (s.cfg.lines.pal - s.prof0.bot.toNat) s.cnt.lastCount.toNat ≤ s.prof0.top.toNat - 1 := by decide

/-- FieldEmitsItsRows: the line before the setup line. -/
theorem witness_FieldEmitsItsRows :
    let s := { ex with cnt := { ex.cnt with line := 27 } }
    s.ctrl.outEn = true ∧ s.loe.zone = .preroll ∧ s.loe.streaming = false ∧ s.arb.xfer = false ∧ s.arb.ready = true ∧
    s.cfg.xsizes[s.prof0.hsizeSel.toNat]? = some (420, 7) ∧ s.cnt.line.toNat + 3 = s.prof0.top.toNat := by decide

/-- StepKeepsBus, StepKeepsSync, StepKeepsDevice: a due event at a state that meets every invariant. -/
theorem witness_invariants :
    BusInv ex ∧ SyncInv ex ∧ MemInv ex ∧ DeviceInv ex ∧ RangeInv ex ∧ ∃ t : State, step ex = .next t := by
  refine ⟨?_, ?_, ?_, ?_, ?_, ?_⟩
  · constructor <;> decide
  · constructor <;> decide
  · constructor <;> decide
  · constructor
    · decide
    · intro q h
      exact absurd h List.not_mem_nil
    all_goals decide
  · constructor
    · intro std
      cases std <;> decide
    all_goals decide
  · exact ⟨_, rfl⟩

/-- StepKeepsBus also from a state in an active field, with a row on the wires. -/
theorem witness_StepKeepsBus :
    BusInv (rowOn (inZone .active 40 ex)) ∧ ∃ t : State, step (rowOn (inZone .active 40 ex)) = .next t :=
  ⟨by constructor <;> decide, ⟨_, rfl⟩⟩

/-- ExecKeepsMemory and ExecKeepsRanges: a completing operation that writes the memory. -/
theorem witness_ExecKeepsMemory : completes (inXfer .write ex) [.evXferDone, .evRefTick, .wrFmWdata 1] = true := by
  decide

/-- StandardHasOneWriter: a genuine vertical sync that changes STD. -/
theorem witness_StandardHasOneWriter :
    ∃ t : State, exec .evVsync ex = .next t ∧ t.vstat.std ≠ ex.vstat.std := ⟨_, rfl, by decide⟩

/-- SourceChangeIsReported: the switch to internal sync, and back. -/
theorem witness_SourceChangeIsReported :
    (∃ t : State, exec .timeoutSwitch ex = .next t ∧ t.vstat.srcExt ≠ ex.vstat.srcExt) ∧
    ∃ t : State, exec .evVsync (onGen .pal 9 ex) = .next t ∧ t.vstat.srcExt ≠ (onGen .pal 9 ex).vstat.srcExt :=
  ⟨⟨_, rfl, by decide⟩, ⟨_, rfl, by decide⟩⟩

/-- BusyEdgesAreReported: a claim and a release. -/
theorem witness_BusyEdgesAreReported :
    (∃ t : State, exec .lineEvent { ex with cnt := { ex.cnt with line := 27 } } = .next t ∧ t.loe.busy ≠ ex.loe.busy) ∧
    ∃ t : State, exec .zoneActive (inZone .active 292 ex) = .next t ∧
      t.loe.busy ≠ (inZone .active 292 ex).loe.busy :=
  ⟨⟨_, rfl, by decide⟩, ⟨_, rfl, by decide⟩⟩

end Sys2Proof.Machine.Test
end

section
/-! PROOFS. The scope (spec/00_scope.md): what a step of the machine runs, and what every operation keeps. -/

namespace Sys2Proof.Machine

/-! ### The step -/

/-- What has arrived runs as the operation it decodes to. -/
theorem runFetch_of_decode {f : Fetch} {i : Instr} {s : State} (h : decode s.cfg.cmds f = .ok i) :
    runFetch f s = exec i s := by
  simp [runFetch, h]

/-- A held operation is run before any event is selected (log entry 9). -/
theorem step_of_held {s : State} {f : Fetch} (h : s.held = some f) : step s = runFetch f { s with held := none } := by
  simp [step, h]

/-- The event that is due runs at its cycle, its stimulus consumed (R9). -/
theorem step_of_due {s : State} {d : Due} {f : Fetch} (hheld : s.held = none) (hdue : nextDue s = some d)
    (hf : d.fetch = some f) : step s = runFetch f (advance d s) := by
  simp [step, hheld, hdue, hf]

/-- A stimulus that is no event is passed over; it may set the source of `fm_sio_i` (log entries 6 and 11). -/
theorem step_of_no_event {s : State} {d : Due} (hheld : s.held = none) (hdue : nextDue s = some d)
    (hf : d.fetch = none) : step s = .next (setSource d.source (advance d s)) := by
  simp [step, hheld, hdue, hf]

/-- With nothing pending the run has ended (R10). -/
theorem step_of_nothing_due {s : State} (hheld : s.held = none) (hdue : nextDue s = none) :
    step s = .refused .noEventPending := by
  simp [step, hheld, hdue]

/-- A source that is given replaces the old one, and otherwise the old one stays. -/
theorem setSource_eq (source : Option SioSource) (s : State) :
    setSource source s = { s with dev := { s.dev with sio := source.getD s.dev.sio } } := by
  cases source <;> rfl

/-- A table word's operation is the one its words decode to with the command bytes of R136. -/
theorem decodeTableWord_eq_some_iff {nbits w : Nat} {i : Instr} :
    decodeTableWord nbits w = some i ↔ decode CmdBytes.default (tableFetch nbits w) = .ok i := by
  unfold decodeTableWord
  cases decode CmdBytes.default (tableFetch nbits w) <;> simp

/-- Settles O4, one equation of `step` per clause. -/
theorem stepRunsDecoded : Obligations.StepRunsDecoded := by
  unfold Obligations.StepRunsDecoded
  refine ⟨fun s f i hheld hi => ?held, fun s d f i hheld hdue hf hi => ?due, fun s d hheld hdue hf => ?noEvent,
    fun s hheld hdue => step_of_nothing_due hheld hdue, fun s nbits w i hcmds hi => ?table⟩
  case held => exact (step_of_held hheld).trans (runFetch_of_decode hi)
  case due => exact (step_of_due hheld hdue hf).trans (runFetch_of_decode hi)
  case noEvent =>
    rw [step_of_no_event hheld hdue hf, setSource_eq]
    cases d.source <;> rfl
  case table =>
    have hi' : decode s.cfg.cmds (tableFetch nbits w) = .ok i := hcmds ▸ decodeTableWord_eq_some_iff.1 hi
    exact (step_of_held (s := s.withFetchWord nbits w) rfl).trans (runFetch_of_decode hi')

/-! ### What an operation that completes has run -/

/-- `t` is what operation `i` leaves when it completes: one case per shared operation that a row of the table calls. (Its
case does not tell the FM_CMD opcodes apart, nor the reserved addresses, nor the reserved ZONE values, which are idle.) -/
inductive Ran (s : State) (i : Instr) : State → Prop where
  | read (r : Reg) : i = readOf r → Ran s i (readReg r s)
  | write (r : Reg) (v : Word) : i = writeOf v r → Ran s i (writeReg r v s)
  | reserved (write : Bool) (a : RegAddr) : Ran s i (reservedAccess write a s)
  | command (op : BitVec 4) : Ran s i (fmCommand op s)
  | qwrite (a : FmAddr) (data : List Byte) : i = .qwrite a data → Ran s i (devWrite s.dev.mode a data s)
  | qread (a : FmAddr) (n : Nat) : i = .qread a n →
      Ran s i (devRead s.dev.mode .quad s.sched.draws a n (nextDraw s))
  | dread (a : FmAddr) (n : Nat) : i = .dread a n →
      Ran s i (devRead s.dev.mode .dual s.sched.draws a n (nextDraw s))
  | rstio : i = .rstioQ ∨ i = .rstioD ∨ i = .rstioAny → Ran s i (devRstio s)
  | edio : i = .edioS → Ran s i (devEnter .dual s)
  | eqio : i = .eqioS → Ran s i (devEnter .quad s)
  | csync : i = .evCsync → Ran s i (csyncEvent s)
  | vsync : i = .evVsync → Ran s i (vsyncEvent s)
  | cmp : i = .evCmp → Ran s i (cmpEvent s)
  | refTick : i = .evRefTick → Ran s i (refTickEvent s)
  | genLine : i = .evGenLine → Ran s i (genLineEvent s)
  | reset : i = .evReset → Ran s i (resetEvent s)
  | hostWrite (a : RegAddr) (v : Word) : i = .evHostWr a v → Ran s i (hostWrite a v s)
  | hostRead (a : RegAddr) : i = .evHostRd a → Ran s i (hostRead a s)
  | xferDone : i = .evXferDone → Ran s i (xferDoneEvent s)
  | pixStart : i = .evPixStart → Ran s i (pixStartEvent s)
  | streamEnd : i = .evStreamEnd → Ran s i (streamEndEvent s)
  | line : i = .lineEvent → Ran s i (lineEvent s)
  | verticalSync (kind : SyncKind) (x : Bool) : i = .vsyncEvent kind x → Ran s i (verticalSync kind x s)
  | timeout : i = .timeoutSwitch → Ran s i (timeoutSwitch s)
  | zone (z : Zone) : i = zoneRow z → Ran s i (loeStepIn z s)
  | idle : Ran s i s

/-- A reserved ZONE value completes only as the idle step (R300). -/
theorem reservedZone_next {z : BitVec 3} {s t : State} (h : reservedZone z s = .next t) : s = t := by
  unfold reservedZone at h
  split at h
  · nomatch h
  · exact Host.Outcome.next.inj h

/-- Whatever operation completes, it has run one of the shared operations (`exec`, arm by arm). -/
theorem ran_of_exec {i : Instr} {s t : State} (h : exec i s = .next t) : Ran s i t := by
  cases i with
  | rdCtrl | rdVstat | rdVstatSet | rdVstatClr | rdLine | rdLastCount | rdField | rdElapsed | rdIntPend | rdIntEn
  | rdFmAddrLo | rdFmAddrHi | rdFmLen | rdFmCmd | rdFmStat | rdFmWdata | rdFmBufptr | rdFmRdata | rdOutResW | rdOutResH
  | rdDbgSr | rdDbgSrcnt | rdDbgLastline | rdDbgAddrLo | rdDbgAddrHi | rdP0Hsize | rdP0Top | rdP0Bot | rdP0Hoff
  | rdP0Scan | rdP1Hsize | rdP1Top | rdP1Bot | rdP1Hoff | rdP1Scan =>
    obtain rfl := Host.Outcome.next.inj h
    exact .read _ rfl
  | wrCtrl | wrVstat | wrVstatSet | wrVstatClr | wrLine | wrLastCount | wrField | wrElapsed | wrIntPend | wrIntEn
  | wrFmAddrLo | wrFmAddrHi | wrFmLen | wrFmCmd | wrFmStat | wrFmWdata | wrFmBufptr | wrFmRdata | wrOutResW | wrOutResH
  | wrDbgSr | wrDbgSrcnt | wrDbgLastline | wrDbgAddrLo | wrDbgAddrHi | wrP0Hsize | wrP0Top | wrP0Bot | wrP0Hoff
  | wrP0Scan | wrP1Hsize | wrP1Top | wrP1Bot | wrP1Hoff | wrP1Scan =>
    obtain rfl := Host.Outcome.next.inj h
    exact .write _ _ rfl
  | reserved19 | reserved1A | reserved1C | reserved25 | reserved26 | reserved2D | reserved2E | reserved30 | reserved40
  | reserved80 =>
    obtain rfl := Host.Outcome.next.inj h
    exact .reserved _ _
  | fmNop | fmInit | fmWrite | fmRead | fmReserved4 | fmReserved8 =>
    obtain rfl := Host.Outcome.next.inj h
    exact .command _
  | qwrite => exact Host.Outcome.next.inj h ▸ .qwrite _ _ rfl
  | qread => exact Host.Outcome.next.inj h ▸ .qread _ _ rfl
  | dread => exact Host.Outcome.next.inj h ▸ .dread _ _ rfl
  | rstioQ => exact Host.Outcome.next.inj h ▸ .rstio (.inl rfl)
  | rstioD => exact Host.Outcome.next.inj h ▸ .rstio (.inr (.inl rfl))
  | rstioAny => exact Host.Outcome.next.inj h ▸ .rstio (.inr (.inr rfl))
  | edioS => exact Host.Outcome.next.inj h ▸ .edio rfl
  | eqioS => exact Host.Outcome.next.inj h ▸ .eqio rfl
  | evCsync => exact Host.Outcome.next.inj h ▸ .csync rfl
  | evVsync => exact Host.Outcome.next.inj h ▸ .vsync rfl
  | evCmp => exact Host.Outcome.next.inj h ▸ .cmp rfl
  | evRefTick => exact Host.Outcome.next.inj h ▸ .refTick rfl
  | evGenLine => exact Host.Outcome.next.inj h ▸ .genLine rfl
  | evReset => exact Host.Outcome.next.inj h ▸ .reset rfl
  | evHostWr => exact Host.Outcome.next.inj h ▸ .hostWrite _ _ rfl
  | evHostRd => exact Host.Outcome.next.inj h ▸ .hostRead _ rfl
  | evXferDone => exact Host.Outcome.next.inj h ▸ .xferDone rfl
  | evPixStart => exact Host.Outcome.next.inj h ▸ .pixStart rfl
  | evStreamEnd => exact Host.Outcome.next.inj h ▸ .streamEnd rfl
  | lineEvent => exact Host.Outcome.next.inj h ▸ .line rfl
  | vsyncEvent => exact Host.Outcome.next.inj h ▸ .verticalSync _ _ rfl
  | timeoutSwitch => exact Host.Outcome.next.inj h ▸ .timeout rfl
  | zonePreroll | zoneSetup | zoneModeswitch | zoneActive | zoneTeardown =>
    obtain rfl := Host.Outcome.next.inj h
    exact .zone _ rfl
  | zoneReserved5 | zoneReserved6 =>
    obtain rfl := reservedZone_next h
    exact .idle

/-! ### Values in range -/

theorem now_lt (s : State) : now s < 2 ^ s.cfg.tsW := Nat.mod_lt _ (Nat.two_pow_pos _)

theorem stampAfter_lt (s : State) (n : Nat) : stampAfter s n < 2 ^ s.cfg.tsW := Nat.mod_lt _ (Nat.two_pow_pos _)

theorem satSucc5_le (c : BitVec 5) : (satSucc5 c).toNat ≤ 16 := by
  simp only [satSucc5, BitVec.toNat_ofNat]
  omega

theorem frameLines_range (std : Std) : 1 ≤ frameLines std ∧ frameLines std < 2 ^ 10 := by cases std <;> decide

/-- Ten bits hold every line number of a frame (R32). -/
theorem toNat_genLine {std : Std} {line : Nat} (h : line ≤ frameLines std) : (BitVec.ofNat 10 line).toNat = line := by
  rw [BitVec.toNat_ofNat, Nat.mod_eq_of_lt (Nat.lt_of_le_of_lt h (frameLines_range std).2)]

/-- From `s` to `t` the parameters stay, and so do the ranges of `RangeInv`. -/
structure KeepsRanges (s t : State) : Prop where
  params : t.cfg = s.cfg
  ranges : RangeInv s → RangeInv t

namespace KeepsRanges

theorem refl (s : State) : KeepsRanges s s := ⟨rfl, id⟩

theorem trans {s t u : State} (hst : KeepsRanges s t) (htu : KeepsRanges t u) : KeepsRanges s u :=
  ⟨htu.params.trans hst.params, htu.ranges ∘ hst.ranges⟩

/-- The ranges speak of the parameters, CTRL, the detector and the generator only. -/
theorem of_frame {s t : State} (hcfg : t.cfg = s.cfg := by simp) (hctrl : t.ctrl = s.ctrl := by simp)
    (hdet : t.det = s.det := by simp) (hgen : t.gen = s.gen := by simp) : KeepsRanges s t where
  params := hcfg
  ranges h :=
    { tableStart := hcfg ▸ h.tableStart
      captureStamp := hcfg ▸ hdet ▸ h.captureStamp
      csyncStamp := hcfg ▸ hdet ▸ h.csyncStamp
      tickStamp := hcfg ▸ hgen ▸ h.tickStamp
      lineStamp := hcfg ▸ hgen ▸ h.lineStamp
      countRange := hdet ▸ h.countRange
      lineRange := hgen ▸ h.lineRange
      modeFixed := hcfg ▸ hctrl ▸ h.modeFixed }

end KeepsRanges

/-! ### Sync detector -/

theorem classify_keepsRanges (delta : Nat) (s : State) : KeepsRanges s (classify delta s) := by
  unfold classify
  split
  · exact ⟨rfl, fun h => { h with countRange := satSucc5_le _ }⟩
  · exact ⟨rfl, fun h => { h with countRange := Nat.zero_le _ }⟩

theorem loseLock_keepsRanges (s : State) : KeepsRanges s (loseLock s) := by
  unfold loseLock
  dsimp only
  split
  · exact ⟨rfl, fun h => { h with countRange := Nat.zero_le _ }⟩
  · exact .of_frame

theorem syncModeEffects_keepsRanges (s : State) : KeepsRanges s (syncModeEffects s) :=
  ⟨rfl, fun h => { h with countRange := Nat.zero_le _ }⟩

theorem genuineSync_keepsRanges (ntsc : Bool) (s : State) : KeepsRanges s (genuineSync ntsc s) := by
  unfold genuineSync
  dsimp only
  split
  · exact .of_frame
  · exact ⟨rfl, fun h => { h with lineRange := nofun }⟩

theorem verticalSync_keepsRanges (kind : SyncKind) (x : Bool) (s : State) : KeepsRanges s (verticalSync kind x s) := by
  have hfield : KeepsRanges s (fieldStart s) := .of_frame
  unfold verticalSync
  cases kind with
  | genuine => exact hfield.trans ((genuineSync_keepsRanges x _).trans .of_frame)
  | internal => exact hfield.trans .of_frame

theorem matchPattern_keepsRanges (s : State) : KeepsRanges s (matchPattern s) := by
  have hclear : KeepsRanges s { s with det := { s.det with srCnt := 0 } } :=
    ⟨rfl, fun h => { h with countRange := Nat.zero_le _ }⟩
  unfold matchPattern
  dsimp only
  split
  · exact hclear.trans (verticalSync_keepsRanges _ _ _)
  · split
    · exact hclear.trans (verticalSync_keepsRanges _ _ _)
    · exact .refl s

theorem acceptedEdge_keepsRanges (delta : Nat) (s : State) : KeepsRanges s (acceptedEdge delta s) := by
  unfold acceptedEdge
  split
  · split
    · exact .of_frame
    · exact (loseLock_keepsRanges s).trans (matchPattern_keepsRanges _)
  · exact matchPattern_keepsRanges s

theorem cmpEvent_keepsRanges (s : State) : KeepsRanges s (cmpEvent s) := by
  have hstamp : KeepsRanges s { s with det := { s.det with capLast := now s, capValid := true } } :=
    ⟨rfl, fun h => { h with captureStamp := now_lt s }⟩
  unfold cmpEvent
  dsimp only
  split
  · split
    · split
      · exact .refl s
      · split
        · exact .refl s
        · exact hstamp.trans ((classify_keepsRanges _ _).trans (acceptedEdge_keepsRanges _ _))
    · exact hstamp
  · exact .refl s

theorem csyncEvent_keepsRanges (s : State) : KeepsRanges s (csyncEvent s) := by
  have hstamp : KeepsRanges s { s with det := { s.det with csLast := now s, csValid := true } } :=
    ⟨rfl, fun h => { h with csyncStamp := now_lt s }⟩
  unfold csyncEvent
  dsimp only
  split
  · split
    · exact .refl s
    · split
      · exact hstamp.trans .of_frame
      · exact hstamp
  · exact .refl s

theorem vsyncEvent_keepsRanges (s : State) : KeepsRanges s (vsyncEvent s) := by
  unfold vsyncEvent
  split
  · exact verticalSync_keepsRanges _ _ s
  · exact .refl s

/-! ### Reference timer and generator -/

/-- The generator starts at a field-start line, which the table has among the lines of the frame (R144, R211). -/
theorem startGenerator_keepsRanges (s : State) : KeepsRanges s (startGenerator s) := by
  refine ⟨rfl, fun h => { h with lineStamp := stampAfter_lt _ _, lineRange := fun _ => ?_ }⟩
  obtain ⟨hlow, hhigh⟩ := h.tableStart s.vstat.std
  exact (toNat_genLine hhigh).symm ▸ ⟨hlow, hhigh⟩

theorem syncPulses_lineEvent_keepsRanges (s : State) : KeepsRanges s (syncPulses (lineEvent s)) := .of_frame

theorem firstGenLine_keepsRanges (s : State) : KeepsRanges s (firstGenLine s) :=
  (verticalSync_keepsRanges .internal true s).trans (syncPulses_lineEvent_keepsRanges _)

theorem timeoutSwitch_keepsRanges (s : State) : KeepsRanges s (timeoutSwitch s) :=
  .trans .of_frame ((startGenerator_keepsRanges _).trans (firstGenLine_keepsRanges _))

theorem restartGenerator_keepsRanges (s : State) : KeepsRanges s (restartGenerator s) :=
  .trans .of_frame ((startGenerator_keepsRanges _).trans (firstGenLine_keepsRanges _))

/-- The next reference tick is a timestamp (R31, R210). -/
theorem refNext_keepsRanges (s : State) :
    KeepsRanges s { s with gen := { s.gen with refNext := stampAfter s s.cfg.refPeriod } } :=
  ⟨rfl, fun h => { h with tickStamp := stampAfter_lt _ _ }⟩

theorem refTickEvent_keepsRanges (s : State) : KeepsRanges s (refTickEvent s) := by
  have htick : KeepsRanges s { s with
      gen := { s.gen with refNext := stampAfter s s.cfg.refPeriod }
      cnt := { s.cnt with elapsed := satSucc16 s.cnt.elapsed } } := (refNext_keepsRanges s).trans .of_frame
  unfold refTickEvent
  dsimp only
  split
  · split
    · exact htick.trans (timeoutSwitch_keepsRanges _)
    · exact htick
  · exact .refl s

/-- The line after `line` in a frame, counted from 1 and wrapping, is a line of the frame (R212). -/
theorem nextGenLine_range (std : Std) (line : Nat) :
    1 ≤ line % frameLines std + 1 ∧ line % frameLines std + 1 ≤ frameLines std :=
  ⟨Nat.le_add_left _ _, Nat.mod_lt _ (frameLines_range std).1⟩

theorem genLineEvent_keepsRanges (s : State) : KeepsRanges s (genLineEvent s) := by
  have hnext : KeepsRanges s { s with gen := { s.gen with
      next := stampAfter s (s.cfg.genLineClks.value s.gen.std),
      line := BitVec.ofNat 10 (s.gen.line.toNat % frameLines s.gen.std + 1) } } := by
    refine ⟨rfl, fun h => { h with lineStamp := stampAfter_lt _ _, lineRange := fun _ => ?_ }⟩
    have hline := nextGenLine_range s.gen.std s.gen.line.toNat
    exact (toNat_genLine hline.2).symm ▸ hline
  unfold genLineEvent
  dsimp only
  split
  · refine hnext.trans (.trans ?_ (syncPulses_lineEvent_keepsRanges _))
    split
    · exact verticalSync_keepsRanges _ _ _
    · split
      · exact verticalSync_keepsRanges _ _ _
      · exact .refl _
  · exact .refl s

/-! ### Host writes and reset -/

/-- A CTRL write sets SYNC_MODE only where P_HW_HAS_EXT_SYNC is 1 (R22, R500). -/
theorem ctrlAfter_syncMode (v : Word) {s : State} (h : s.cfg.hasExtSync = false) :
    (ctrlAfter v s).syncMode = s.ctrl.syncMode := by
  simp [ctrlAfter, h]

theorem ctrlAfter_keepsRanges (v : Word) (s : State) : KeepsRanges s { s with ctrl := ctrlAfter v s } :=
  ⟨rfl, fun h => { h with modeFixed := fun hsync => (ctrlAfter_syncMode v (s := s) hsync).trans (h.modeFixed hsync) }⟩

theorem disableEffects_keepsRanges (s : State) : KeepsRanges s (disableEffects s) := by
  have habort : ∀ t : State, KeepsRanges t (if zoneBusy t.loe.zone then abortTeardown t else t) := by
    intro t
    split
    · exact .of_frame
    · exact .refl t
  exact (syncModeEffects_keepsRanges s).trans
    ((habort _).trans ⟨rfl, fun h => { h with lineRange := nofun }⟩)

theorem enableEffects_keepsRanges (s : State) : KeepsRanges s (enableEffects s) := by
  unfold enableEffects
  dsimp only
  split
  · exact refNext_keepsRanges s
  · exact (refNext_keepsRanges s).trans (restartGenerator_keepsRanges _)

theorem enableChange_keepsRanges (old : Ctrl) (s : State) : KeepsRanges s (enableChange old s) := by
  unfold enableChange
  split
  · exact .refl s
  · split
    · exact enableEffects_keepsRanges s
    · exact disableEffects_keepsRanges s

theorem writeCtrl_keepsRanges (v : Word) (s : State) : KeepsRanges s (writeCtrl v s) := by
  unfold writeCtrl
  dsimp only
  refine (ctrlAfter_keepsRanges v s).trans (.trans ?_ (enableChange_keepsRanges _ _))
  split
  · exact .refl _
  · exact syncModeEffects_keepsRanges _

theorem unlessXfer_keepsRanges (a : Arbiter) (s : State) : KeepsRanges s (unlessXfer a s) := by
  unfold unlessXfer
  split
  · exact .refl s
  · exact .of_frame

/-- Of the register writes only CTRL's reaches a value that has a range. -/
theorem writeReg_keepsRanges (r : Reg) (v : Word) (s : State) : KeepsRanges s (writeReg r v s) := by
  cases r with
  | ctrl => exact writeCtrl_keepsRanges v s
  | vstat | vstatSet | vstatClr | intPend | intEn
  | p0Hsize | p0Top | p0Bot | p0Hoff | p0Scan | p1Hsize | p1Top | p1Bot | p1Hoff | p1Scan => exact .of_frame rfl rfl rfl rfl
  | fmAddrLo | fmAddrHi | fmLen | fmWdata | fmBufptr => exact unlessXfer_keepsRanges _ s
  | fmCmd => exact .of_frame (t := fmCommand _ s)
  | line | lastCount | field | elapsed | fmStat | fmRdata | outResW | outResH | dbgSr | dbgSrcnt | dbgLastline | dbgAddrLo
  | dbgAddrHi => exact .refl s

theorem hostWrite_keepsRanges (a : RegAddr) (v : Word) (s : State) : KeepsRanges s (hostWrite a v s) := by
  unfold hostWrite
  split
  · exact writeReg_keepsRanges _ v s
  · exact .refl s

theorem reservedAccess_keepsRanges (write : Bool) (a : RegAddr) (s : State) :
    KeepsRanges s (reservedAccess write a s) := by
  cases write
  · exact .of_frame (t := returnWord a 0 s)
  · exact .refl s

/-- The reset values are in range (R22, R29 to R32). -/
theorem resetEvent_keepsRanges (s : State) : KeepsRanges s (resetEvent s) where
  params := rfl
  ranges h :=
    { tableStart := h.tableStart
      captureStamp := Nat.two_pow_pos _
      csyncStamp := Nat.two_pow_pos _
      tickStamp := Nat.two_pow_pos _
      lineStamp := Nat.two_pow_pos _
      countRange := Nat.zero_le _
      lineRange := nofun
      modeFixed := fun hsync => by simpa [resetEvent, Ctrl.atReset] using hsync }

theorem Ran.keepsRanges {i : Instr} {s t : State} (h : Ran s i t) : KeepsRanges s t := by
  cases h with
  | read | command | qwrite | qread | dread | rstio | edio | eqio | hostRead | xferDone | pixStart | streamEnd | line
  | zone =>
    exact .of_frame
  | write r v => exact writeReg_keepsRanges r v s
  | reserved write a => exact reservedAccess_keepsRanges write a s
  | csync => exact csyncEvent_keepsRanges s
  | vsync => exact vsyncEvent_keepsRanges s
  | cmp => exact cmpEvent_keepsRanges s
  | refTick => exact refTickEvent_keepsRanges s
  | genLine => exact genLineEvent_keepsRanges s
  | reset => exact resetEvent_keepsRanges s
  | hostWrite a v => exact hostWrite_keepsRanges a v s
  | verticalSync kind x => exact verticalSync_keepsRanges kind x s
  | timeout => exact timeoutSwitch_keepsRanges s
  | idle => exact .refl s

/-- Settles O57: what an operation has run, by `Ran`, keeps the parameters and the ranges. -/
theorem execKeepsRanges : Obligations.ExecKeepsRanges := by
  intro i s t h
  have hkeeps := (ran_of_exec h).keepsRanges
  exact ⟨hkeeps.params, hkeeps.ranges⟩

end Sys2Proof.Machine
end

section
/-! PROOFS. The state (spec/10_state.md): the invariants hold after reset, and every step or operation keeps them. -/

namespace Sys2Proof.Machine

/-! ### What the operations write -/

@[simp] theorem setupZone_loe (s : State) : (setupZone s).loe = setupLoe s := rfl

@[simp] theorem teardown_loe (switched : Bool) (s : State) :
    (teardown switched s).loe = { s.loe with busy := false, zone := .teardown } := by
  cases switched <;> simp [teardown]

@[simp] theorem teardown_arb (switched : Bool) (s : State) :
    (teardown switched s).arb = { s.arb with mode := if switched then .quad else s.arb.mode } := by
  cases switched <;> simp [teardown]

@[simp] theorem teardown_mem (switched : Bool) (s : State) : (teardown switched s).dev.mem = s.dev.mem := by
  cases switched <;> simp [teardown]

@[simp] theorem abortTeardown_loe (s : State) :
    (abortTeardown s).loe = { s.loe with streaming := false, busy := false, zone := .preroll } := by
  rw [(abortTeardown_spec s : abortTeardown s = _)]

@[simp] theorem abortTeardown_arb (s : State) :
    (abortTeardown s).arb = { s.arb with mode := if s.arb.mode = .dual then .quad else s.arb.mode } := by
  rw [(abortTeardown_spec s : abortTeardown s = _)]

@[simp] theorem abortTeardown_mem (s : State) : (abortTeardown s).dev.mem = s.dev.mem := by
  rw [(abortTeardown_spec s : abortTeardown s = _)]

@[simp] theorem abortTeardown_pixValid (s : State) :
    (abortTeardown s).ports.pixValid = if s.loe.streaming then false else s.ports.pixValid := by
  rw [(abortTeardown_spec s : abortTeardown s = _)]

@[simp] theorem startTransfer_arb (k : XferKind) (s : State) :
    (startTransfer k s).arb = { s.arb with err := .ok, xfer := true, kind := k } := by
  simp [startTransfer]

/-- A command that R403's checks let pass finds no transaction, an idle line output and, but for INIT, a ready device. -/
theorem issueError_eq_none {k : XferKind} {s : State} (h : issueError k s = none) :
    s.arb.xfer = false ∧ s.loe.busy = false ∧ (k = .init ∨ s.arb.ready = true) := by
  unfold issueError at h
  split at h
  · nomatch h
  · rename_i hxfer
    split at h
    · nomatch h
    · rename_i hbusy
      refine ⟨by simpa using hxfer, by simpa using hbusy, ?_⟩
      split at h
      · exact .inl ‹_›
      · split at h
        · nomatch h
        · rename_i hready
          exact .inr (by simpa using hready)

/-- What a completion writes of the arbiter: INIT's makes the device ready in quad mode; a WRITE's and a READ's set BUFPTR
to 0, and a READ's fills the buffer (R406 to R408). -/
theorem completeKind_arb_cases (s : State) :
    (completeKind s).arb = { s.arb with mode := .quad, ready := true } ∨
    ∃ buf, (completeKind s).arb = { s.arb with buf := buf, bufPtr := 0 } := by
  unfold completeKind
  split
  · exact .inl (by simp [completeInit])
  · exact .inr ⟨_, by simp [completeWrite]; rfl⟩
  · exact .inr ⟨_, by simp [completeRead]; rfl⟩

/-- A read of a register returns a word; that of FM_RDATA may also advance BUFPTR and use a draw (R89, R514). -/
theorem readReg_cases (r : Reg) (s : State) :
    (∃ a v, readReg r s = returnWord a v s) ∨
    ∃ v, readReg r s =
      nextDraw (returnWord (addrOf .fmRdata) v { s with arb := { s.arb with bufPtr := nextBufPtr s } }) := by
  cases r with
  | fmRdata =>
    by_cases hxfer : s.arb.xfer = true
    · exact .inl ⟨_, _, if_pos hxfer⟩
    · exact .inr ⟨_, if_neg hxfer⟩
  | _ => exact .inl ⟨_, _, rfl⟩

/-- What a register write and an idle access give, a host write gives (R520, R526). -/
theorem hostWrite_rule {P : State → Prop} {s : State} {v : Word} (a : RegAddr) (hidle : P s)
    (hreg : ∀ r, P (writeReg r v s)) : P (hostWrite a v s) := by
  unfold hostWrite
  split
  · exact hreg _
  · exact hidle

/-- What a register read and a returned word give, a host read gives (R520, R526). -/
theorem hostRead_rule {P : State → Prop} {s : State} (a : RegAddr) (hreturn : P (returnWord a 0 s))
    (hreg : ∀ r, P (readReg r s)) : P (hostRead a s) := by
  unfold hostRead
  split
  · exact hreg _
  · exact hreturn

/-- What a returned word and an idle access give, an access to a reserved address gives (R520). -/
theorem reservedAccess_rule {P : State → Prop} {s : State} (write : Bool) (a : RegAddr) (hidle : P s)
    (hreturn : P (returnWord a 0 s)) : P (reservedAccess write a s) := by
  cases write with
  | false => exact hreturn
  | true => exact hidle

@[simp] theorem returnWord_pixValid (a : RegAddr) (v : Word) (s : State) :
    (returnWord a v s).ports.pixValid = s.ports.pixValid := rfl

@[simp] theorem returnWord_syncOe (a : RegAddr) (v : Word) (s : State) :
    (returnWord a v s).ports.syncOe = s.ports.syncOe := rfl

@[simp] theorem genuineSync_pixValid (ntsc : Bool) (s : State) :
    (genuineSync ntsc s).ports.pixValid = s.ports.pixValid := by
  unfold genuineSync
  dsimp only
  split <;> rfl

@[simp] theorem startGenerator_pixValid (s : State) : (startGenerator s).ports.pixValid = s.ports.pixValid := rfl

@[simp] theorem abortTeardown_syncOe (s : State) : (abortTeardown s).ports.syncOe = s.ports.syncOe := by
  rw [(abortTeardown_spec s : abortTeardown s = _)]

@[simp] theorem zoneStep_syncOe (z : Zone) (s : State) : (zoneStep z s).ports.syncOe = s.ports.syncOe := by
  cases z with
  | preroll | setup | teardown => simp [zoneStep]
  | modeswitch | active => rcases activeStep_cases s with ⟨_, heq⟩ | ⟨_, heq⟩ <;> simp [zoneStep, heq]

@[simp] theorem loeStepIn_syncOe (z : Zone) (s : State) : (loeStepIn z s).ports.syncOe = s.ports.syncOe := by
  rcases loeStepIn_cases z s with ⟨_, heq⟩ | ⟨_, _, heq⟩ | ⟨_, _, heq⟩ <;> simp [heq]

@[simp] theorem lineEvent_syncOe (s : State) : (lineEvent s).ports.syncOe = s.ports.syncOe := by
  simp [lineEvent, loeStep]

@[simp] theorem lineEvent_vlock (s : State) : (lineEvent s).cnt.vlock = s.cnt.vlock := by simp [lineEvent]

@[simp] theorem fieldStart_syncOe (s : State) : (fieldStart s).ports.syncOe = s.ports.syncOe := by
  unfold fieldStart
  dsimp only
  split <;> simp

@[simp] theorem fieldStart_vlock (s : State) : (fieldStart s).cnt.vlock = s.cnt.vlock := by
  unfold fieldStart
  dsimp only
  split <;> simp

@[simp] theorem pixStartEvent_syncOe (s : State) : (pixStartEvent s).ports.syncOe = s.ports.syncOe := by
  unfold pixStartEvent
  split <;> rfl

@[simp] theorem streamEndEvent_syncOe (s : State) : (streamEndEvent s).ports.syncOe = s.ports.syncOe := by
  unfold streamEndEvent
  split <;> rfl

@[simp] theorem readReg_syncOe (r : Reg) (s : State) : (readReg r s).ports.syncOe = s.ports.syncOe := by
  rcases readReg_cases r s with ⟨a, v, heq⟩ | ⟨v, heq⟩ <;> rw [heq] <;> rfl

/-! ### What a step runs -/

/-- The operations that a step reaches only from within another event: the line-output steps, which a line event runs, and
the switch to internal sync, which a reference tick runs. -/
def nestedOnly : Instr → Bool
  | .timeoutSwitch => true
  | .zonePreroll => true
  | .zoneSetup => true
  | .zoneModeswitch => true
  | .zoneActive => true
  | .zoneTeardown => true
  | .zoneReserved5 => true
  | .zoneReserved6 _ => true
  | _ => false

theorem nestedOnly_zoneRow (z : Zone) : nestedOnly (zoneRow z) = true := by cases z <;> rfl

/-- What the scheduler delivers (R139, R526, R612): an event, a host access or a frame from outside. The event is none of
R139's routines of an event, whose codes are 0x10 and above. -/
def Arrives (f : Fetch) : Prop :=
  match f.port with
  | .event => (f.word.extractLsb' 0 5).toNat < 0x10
  | .hostreg => True
  | .wire _ => True
  | .fmcmd => False
  | .zone => False

theorem decodeHost_not_nested (access : BitVec 25) : nestedOnly (decodeHost access) = false := by
  unfold decodeHost
  dsimp only
  split
  · rename_i r _
    split <;> cases r <;> rfl
  · unfold decodeReserved
    repeat' split
    all_goals rfl

theorem decodeWire_not_nested {c : CmdBytes} {mode : WireMode} {word : BitVec 32} {tail : List Byte} {i : Instr}
    (h : decodeWire c mode word tail = .ok i) : nestedOnly i = false := by
  unfold decodeWire at h
  dsimp only at h
  repeat' split at h
  all_goals cases h
  all_goals rfl

theorem decodeEvent_not_nested {word : BitVec 32} {i : Instr} (hcode : (word.extractLsb' 0 5).toNat < 0x10)
    (h : decodeEvent word = .ok i) : nestedOnly i = false := by
  unfold decodeEvent at h
  split at h
  all_goals cases h
  all_goals simp_all [nestedOnly]

/-- What arrives never decodes to an operation that only another event runs. -/
theorem Arrives.not_nested {f : Fetch} {c : CmdBytes} {i : Instr} (harr : Arrives f) (h : decode c f = .ok i) :
    nestedOnly i = false := by
  obtain ⟨port, word, tail⟩ := f
  cases port with
  | hostreg => exact Except.ok.inj h ▸ decodeHost_not_nested _
  | wire mode => exact decodeWire_not_nested h
  | event => exact decodeEvent_not_nested harr h
  | fmcmd | zone => exact harr.elim

theorem eventFetch_arrives {code : BitVec 5} (hcode : code.toNat < 0x10) : Arrives (eventFetch code 0) := by
  have hword : ∀ code : BitVec 5, (eventFetch code 0).word.extractLsb' 0 5 = code := by decide
  exact (congrArg BitVec.toNat (hword code)).trans_lt hcode

theorem edgeFetch_arrives {e : Edge} {rise : Bool} {code : BitVec 5} {f : Fetch} (hcode : Arrives (eventFetch code 0))
    (h : edgeFetch e rise code = some f) : Arrives f := by
  unfold edgeFetch at h
  split at h
  · exact Option.some.inj h ▸ hcode
  · nomatch h

theorem driveFetch_arrives {c : Cfg} {q : Drive} {f : Fetch} (h : driveFetch c q = some f) : Arrives f := by
  cases q with
  | rst => exact Option.some.inj h ▸ eventFetch_arrives (by decide)
  | vsync | csync | cmp => exact edgeFetch_arrives (eventFetch_arrives (by decide)) h
  | host | frame => exact Option.some.inj h ▸ trivial
  | sio => nomatch h

theorem inputDues_arrive {s : State} {d : Due} {f : Fetch} {l : List Stimulus} {i : Nat} (hd : d ∈ inputDues s i l)
    (hf : d.fetch = some f) : Arrives f := by
  induction l generalizing i with
  | nil => nomatch hd
  | cons q rest ih =>
    rcases List.mem_cons.1 hd with rfl | hd
    · exact driveFetch_arrives hf
    · exact ih hd

theorem timerDue_arrives {running : Bool} {time rank : Nat} {code : BitVec 5} {d : Due} {f : Fetch}
    (hcode : Arrives (eventFetch code 0)) (hd : d ∈ timerDue running time rank code) (hf : d.fetch = some f) :
    Arrives f := by
  unfold timerDue at hd
  split at hd
  · obtain rfl := List.mem_singleton.1 hd
    exact Option.some.inj hf ▸ hcode
  · nomatch hd

theorem nextDue_arrives {s : State} {d : Due} {f : Fetch} (hd : nextDue s = some d) (hf : d.fetch = some f) :
    Arrives f := by
  rcases List.mem_append.1 (firstDue_mem _ _ hd) with htimer | hinput
  · simp only [timerDues, List.mem_append] at htimer
    rcases htimer with (((h | h) | h) | h) | h
    all_goals exact timerDue_arrives (eventFetch_arrives (by decide)) h hf
  · exact inputDues_arrive hinput hf

/-- With no word held, a step that answers has passed over a stimulus or has run an event's operation, at the cycle of what
was due (R9). -/
theorem step_cases {s t : State} (hheld : s.held = none) (h : step s = .next t) :
    (∃ d, t = setSource d.source (advance d s)) ∨
    ∃ d i, nestedOnly i = false ∧ exec i (advance d s) = .next t := by
  cases hdue : nextDue s with
  | none => nomatch (step_of_nothing_due hheld hdue).symm.trans h
  | some d =>
    cases hf : d.fetch with
    | none =>
      rw [step_of_no_event hheld hdue hf] at h
      exact .inl ⟨d, (Host.Outcome.next.inj h).symm⟩
    | some f =>
      rw [step_of_due hheld hdue hf] at h
      unfold runFetch at h
      split at h
      · rename_i i hi
        exact .inr ⟨d, i, (nextDue_arrives hdue hf).not_nested hi, h⟩
      · nomatch h

/-! ### What the events of the sync side do to the output -/

/-- From `s` to `t` the output and the frame memory stay as they are: only the sync side, the interrupts, CTRL, VSTAT, the
profiles, the observations and the ports that belong to them may differ. -/
structure SameOutput (s t : State) : Prop where
  held : t.held = s.held := by simp
  cfg : t.cfg = s.cfg := by simp
  loe : t.loe = s.loe := by simp
  arb : t.arb = s.arb := by simp
  dev : t.dev = s.dev := by simp
  pixValid : t.ports.pixValid = s.ports.pixValid := by simp

/-- From `s` to `t` the output and the frame memory change by line events, field starts and forced teardowns only. -/
inductive SyncSteps : State → State → Prop where
  | same {s t : State} : SameOutput s t → SyncSteps s t
  | line (s : State) : SyncSteps s (lineEvent s)
  | field (s : State) : SyncSteps s (fieldStart s)
  | abort (s : State) : SyncSteps s (abortTeardown s)
  | trans {s t u : State} : SyncSteps s t → SyncSteps t u → SyncSteps s u

namespace SyncSteps

theorem refl (s : State) : SyncSteps s s := .same {}

theorem verticalSync (kind : SyncKind) (x : Bool) (s : State) : SyncSteps s (verticalSync kind x s) := by
  unfold Machine.verticalSync
  cases kind with
  | genuine => exact (field s).trans (.same {})
  | internal => exact (field s).trans (.same {})

theorem vsyncEvent (s : State) : SyncSteps s (vsyncEvent s) := by
  unfold Machine.vsyncEvent
  split
  · exact verticalSync _ _ s
  · exact refl s

theorem csyncEvent (s : State) : SyncSteps s (csyncEvent s) := by
  have hstamp : SyncSteps s { s with det := { s.det with csLast := now s, csValid := true } } := .same {}
  unfold Machine.csyncEvent
  dsimp only
  split
  · split
    · exact refl s
    · split
      · exact hstamp.trans (line _)
      · exact hstamp
  · exact refl s

theorem matchPattern (s : State) : SyncSteps s (matchPattern s) := by
  have hclear : SyncSteps s { s with det := { s.det with srCnt := 0 } } := .same {}
  unfold Machine.matchPattern
  dsimp only
  split
  · exact hclear.trans (verticalSync _ _ _)
  · split
    · exact hclear.trans (verticalSync _ _ _)
    · exact refl s

theorem acceptedEdge (delta : Nat) (s : State) : SyncSteps s (acceptedEdge delta s) := by
  unfold Machine.acceptedEdge
  split
  · split
    · exact line s
    · exact trans (.same {}) (matchPattern (loseLock s))
  · exact matchPattern s

theorem cmpEvent (s : State) : SyncSteps s (cmpEvent s) := by
  have hstamp : SyncSteps s { s with det := { s.det with capLast := now s, capValid := true } } := .same {}
  unfold Machine.cmpEvent
  dsimp only
  split
  · split
    · split
      · exact refl s
      · split
        · exact refl s
        · exact hstamp.trans (trans (.same {}) (acceptedEdge _ (classify _ _)))
    · exact hstamp
  · exact refl s

theorem syncPulses_lineEvent (s : State) : SyncSteps s (syncPulses (lineEvent s)) := (line s).trans (.same {})

theorem firstGenLine (s : State) : SyncSteps s (firstGenLine s) :=
  (verticalSync .internal true s).trans (syncPulses_lineEvent _)

theorem timeoutSwitch (s : State) : SyncSteps s (timeoutSwitch s) := .trans (.same {}) (firstGenLine _)

theorem restartGenerator (s : State) : SyncSteps s (restartGenerator s) := .trans (.same {}) (firstGenLine _)

theorem refTickEvent (s : State) : SyncSteps s (refTickEvent s) := by
  have htick : SyncSteps s { s with
      gen := { s.gen with refNext := stampAfter s s.cfg.refPeriod }
      cnt := { s.cnt with elapsed := satSucc16 s.cnt.elapsed } } := .same {}
  unfold Machine.refTickEvent
  dsimp only
  split
  · split
    · exact htick.trans (timeoutSwitch _)
    · exact htick
  · exact refl s

theorem genLineEvent (s : State) : SyncSteps s (genLineEvent s) := by
  have hnext : SyncSteps s { s with gen := { s.gen with
      next := stampAfter s (s.cfg.genLineClks.value s.gen.std),
      line := BitVec.ofNat 10 (s.gen.line.toNat % frameLines s.gen.std + 1) } } := .same {}
  unfold Machine.genLineEvent
  dsimp only
  split
  · refine hnext.trans (.trans ?_ (syncPulses_lineEvent _))
    split
    · exact verticalSync _ _ _
    · split
      · exact verticalSync _ _ _
      · exact refl _
  · exact refl s

theorem disableEffects (s : State) : SyncSteps s (disableEffects s) := by
  have habort : ∀ t : State, SyncSteps t (if zoneBusy t.loe.zone then abortTeardown t else t) := by
    intro t
    split
    · exact abort t
    · exact refl t
  exact .trans (.same {}) ((habort (syncModeEffects s)).trans (.same ⟨rfl, rfl, rfl, rfl, rfl, rfl⟩))

theorem enableEffects (s : State) : SyncSteps s (enableEffects s) := by
  unfold Machine.enableEffects
  dsimp only
  split
  · exact .same {}
  · exact .trans (.same {}) (restartGenerator _)

theorem enableChange (old : Ctrl) (s : State) : SyncSteps s (enableChange old s) := by
  unfold Machine.enableChange
  split
  · exact refl s
  · split
    · exact enableEffects s
    · exact disableEffects s

theorem writeCtrl (v : Word) (s : State) : SyncSteps s (writeCtrl v s) := by
  unfold Machine.writeCtrl
  dsimp only
  refine .trans (.same (t := { s with ctrl := ctrlAfter v s }) {}) (.trans ?_ (enableChange _ _))
  split
  · exact refl _
  · exact .same {}

end SyncSteps

/-- What the write of a register can do to the output and the frame memory: the steps of the sync side, a new transaction
parameter or buffer byte, or a command. -/
theorem writeReg_cases (r : Reg) (v : Word) (s : State) :
    SyncSteps s (writeReg r v s) ∨
    (∃ addr len, writeReg r v s = unlessXfer { s.arb with fmAddr := addr, fmLen := len } s) ∨
    writeReg r v s = writeFmWdata v s ∨ writeReg r v s = writeFmBufptr v s ∨
    ∃ op, writeReg r v s = fmCommand op s := by
  cases r with
  | ctrl => exact .inl (.writeCtrl v s)
  | vstat | vstatSet | vstatClr | intPend | intEn
  | p0Hsize | p0Top | p0Bot | p0Hoff | p0Scan | p1Hsize | p1Top | p1Bot | p1Hoff | p1Scan =>
    exact .inl (.same ⟨rfl, rfl, rfl, rfl, rfl, rfl⟩)
  | fmAddrLo | fmAddrHi | fmLen => exact .inr (.inl ⟨_, _, rfl⟩)
  | fmWdata => exact .inr (.inr (.inl rfl))
  | fmBufptr => exact .inr (.inr (.inr (.inl rfl)))
  | fmCmd => exact .inr (.inr (.inr (.inr ⟨_, rfl⟩)))
  | line | lastCount | field | elapsed | fmStat | fmRdata | outResW | outResH | dbgSr | dbgSrcnt | dbgLastline | dbgAddrLo
  | dbgAddrHi => exact .inl (.refl s)

/-! ### The ownership of the frame-memory bus (R45, R46, R313, R400) -/

namespace BusInv

/-- The invariant speaks of these parts of the state only. -/
theorem of_frame {s t : State} (h : BusInv s) (hheld : t.held = s.held := by simp)
    (hbusy : t.loe.busy = s.loe.busy := by simp) (hzone : t.loe.zone = s.loe.zone := by simp)
    (hstream : t.loe.streaming = s.loe.streaming := by simp) (hmode : t.arb.mode = s.arb.mode := by simp)
    (hxfer : t.arb.xfer = s.arb.xfer := by simp) (hkind : t.arb.kind = s.arb.kind := by simp)
    (hready : t.arb.ready = s.arb.ready := by simp) (hpix : t.ports.pixValid = s.ports.pixValid := by simp) :
    BusInv t where
  nothingHeld := hheld ▸ h.nothingHeld
  busyIff := hbusy ▸ hzone ▸ h.busyIff
  dualIff := hmode ▸ hzone ▸ h.dualIff
  xferMode := hxfer ▸ hmode ▸ hkind ▸ h.xferMode
  oneOwner := hxfer ▸ hmode ▸ h.oneOwner
  readyKnown := hready ▸ hmode ▸ h.readyKnown
  streamingActive := hstream ▸ hzone ▸ h.streamingActive
  pixelsStream := hpix ▸ hstream ▸ h.pixelsStream

/-- The reset values of the output, the arbiter and the ports meet the invariant (R33, R36, R37, R42). -/
theorem of_reset {t : State} (hheld : t.held = none) (hloe : t.loe = LineOut.atReset) (harb : t.arb = Arbiter.atReset)
    (hports : t.ports = Ports.atReset) : BusInv t := by
  constructor <;> simp [hheld, hloe, harb, hports, LineOut.atReset, Arbiter.atReset, Ports.atReset]

/-- With no row on the wires no pixel is valid. -/
theorem pixValid_eq_false {s : State} (h : BusInv s) (hstream : s.loe.streaming = false) : s.ports.pixValid = false := by
  by_contra hpix
  exact absurd (h.pixelsStream (by simpa using hpix)) (by simp [hstream])

/-- While the line output is idle no device is in dual mode: FM_MODE is DUAL in the active zones only. -/
theorem mode_ne_dual {s : State} (h : BusInv s) (hbusy : s.loe.busy = false) : s.arb.mode ≠ .dual := fun hdual => by
  have hzone := h.busyIff.2 (.inr (h.dualIff.1 hdual))
  simp [hbusy] at hzone

theorem cutStream {s : State} (h : BusInv s) (overrun : Bool) : BusInv (cutStream overrun s) := by
  rw [cutStream_eq]
  exact { h with streamingActive := nofun, pixelsStream := nofun }

/-- A forced teardown releases the bus, and leaves dual mode where the device was in it (R306). -/
theorem abortTeardown {s : State} (h : BusInv s) : BusInv (abortTeardown s) := by
  have hmode : (Machine.abortTeardown s).arb.mode ≠ .dual := by
    rw [abortTeardown_arb]
    dsimp only
    split
    · nofun
    · assumption
  exact
    { nothingHeld := by simp [h.nothingHeld]
      busyIff := by simp
      dualIff := ⟨fun hdual => absurd hdual hmode, by simp⟩
      xferMode := fun hxfer => by
        rw [abortTeardown_arb] at hxfer
        simpa [h.oneOwner hxfer] using h.xferMode hxfer
      oneOwner := fun _ => hmode
      readyKnown := fun hready => by
        rw [abortTeardown_arb] at hready ⊢
        dsimp only
        split
        · nofun
        · exact h.readyKnown hready
      streamingActive := by simp
      pixelsStream := fun hpix => by
        rw [abortTeardown_pixValid] at hpix
        split at hpix
        · nomatch hpix
        · exact absurd (h.pixelsStream hpix) ‹_› }

/-- Setup claims the bus at the end of the pre-roll zone (R302). -/
theorem setupZone {s : State} (h : BusInv s) (hzone : s.loe.zone = .preroll) : BusInv (setupZone s) where
  nothingHeld := by simp [h.nothingHeld]
  busyIff := by simp [setupLoe]
  dualIff := by simp [setupLoe, h.dualIff, hzone]
  xferMode := by simpa using h.xferMode
  oneOwner := by simpa using h.oneOwner
  readyKnown := by simpa using h.readyKnown
  streamingActive hstream := by
    have hactive := h.streamingActive hstream
    simp [hzone] at hactive
  pixelsStream := by simpa [setupLoe] using h.pixelsStream

/-- The teardown releases the bus; it switches the device back where it was in dual mode (R305). -/
theorem teardown {s : State} (h : BusInv s) (switched : Bool) (hstream : s.loe.streaming = false)
    (hmode : switched = false → s.arb.mode ≠ .dual) : BusInv (teardown switched s) := by
  have hquad : (Machine.teardown switched s).arb.mode ≠ .dual := by
    cases switched with
    | false => simpa using hmode rfl
    | true => simp
  exact
    { nothingHeld := by simp [h.nothingHeld]
      busyIff := by simp
      dualIff := ⟨fun hdual => absurd hdual hquad, by simp⟩
      xferMode := by
        cases switched with
        | false => simpa using h.xferMode
        | true => simp
      oneOwner := fun _ => hquad
      readyKnown := by
        cases switched with
        | false => simpa using h.readyKnown
        | true => simp
      streamingActive := by simp [hstream]
      pixelsStream := by simp [h.pixValid_eq_false hstream] }

theorem prerollStep {s : State} (h : BusInv s) (hzone : s.loe.zone = .preroll) : BusInv (prerollStep s) := by
  rcases prerollStep_cases s with ⟨_, heq⟩ | ⟨_, heq⟩
  · exact heq ▸ h.setupZone hzone
  · exact heq.symm ▸ h

/-- The mode-switch step enters dual mode only where no transaction is in progress (R303, R400). -/
theorem switchStep {s : State} (h : BusInv s) (hzone : s.loe.zone = .setup) : BusInv (switchStep s) := by
  have hstream : s.loe.streaming = false := by
    by_contra hstream
    have hactive := h.streamingActive (by simpa using hstream)
    simp [hzone] at hactive
  have hmode : s.arb.mode ≠ .dual := by simp [h.dualIff, hzone]
  rcases switchStep_cases s with ⟨_, heq⟩ | ⟨_, _, heq⟩ | ⟨_, hxfer, heq⟩
  · exact heq ▸ h.teardown false hstream fun _ => hmode
  · exact heq.symm ▸ h
  · rw [heq]
    exact
      { nothingHeld := by simp [h.nothingHeld]
        busyIff := by simp [h.busyIff, hzone]
        dualIff := by simp
        xferMode := by simp [hxfer]
        oneOwner := by simp [hxfer]
        readyKnown := by simp
        streamingActive := by simp [hstream]
        pixelsStream := by simp [h.pixValid_eq_false hstream] }

/-- The active step sends a row, in dual mode, or tears down (R304). -/
theorem activeStep {s : State} (h : BusInv s) (hstream : s.loe.streaming = false)
    (hzone : s.loe.zone = .modeswitch ∨ s.loe.zone = .active) : BusInv (activeStep s) := by
  have hdual := h.dualIff.2 hzone
  rcases activeStep_cases s with ⟨_, heq⟩ | ⟨_, heq⟩
  · exact heq ▸ h.teardown true hstream nofun
  · rw [heq]
    exact
      { nothingHeld := by simp [h.nothingHeld]
        busyIff := by simp [h.busyIff, hzone]
        dualIff := by simp [hdual]
        xferMode := by simpa using h.xferMode
        oneOwner := by simpa using h.oneOwner
        readyKnown := by simpa using h.readyKnown
        streamingActive := by simp
        pixelsStream := by simp }

/-- The rule of the zone that ZONE names keeps the ownership (R300). -/
theorem zoneStep {s : State} (h : BusInv s) (hstream : s.loe.streaming = false) {z : Zone} (hzone : s.loe.zone = z) :
    BusInv (zoneStep z s) := by
  cases z with
  | preroll => exact h.prerollStep hzone
  | setup => exact h.switchStep hzone
  | modeswitch => exact h.activeStep hstream (.inl hzone)
  | active => exact h.activeStep hstream (.inr hzone)
  | teardown => exact h

theorem lineEvent {s : State} (h : BusInv s) : BusInv (lineEvent s) := by
  have hline : BusInv { s with cnt := { s.cnt with line := s.cnt.line + 1 } } := h.of_frame
  unfold Machine.lineEvent loeStep
  rcases loeStepIn_cases s.loe.zone { s with cnt := { s.cnt with line := s.cnt.line + 1 } } with
    ⟨_, heq⟩ | ⟨_, _, heq⟩ | ⟨_, hstream, heq⟩
  · exact heq.symm ▸ hline
  · exact heq ▸ (hline.cutStream true).zoneStep (by simp) (by simp)
  · exact heq ▸ hline.zoneStep hstream rfl

/-- A field that has ended its teardown waits in the pre-roll zone again, idle in both (R214). -/
theorem fieldStart {s : State} (h : BusInv s) : BusInv (fieldStart s) := by
  have hwait : ∀ (t : State) (c : Counters), BusInv t → BusInv { t with
      cnt := c, loe := { t.loe with zone := if t.loe.zone = .teardown then .preroll else t.loe.zone } } := by
    intro t c ht
    by_cases hzone : t.loe.zone = .teardown
    · exact { ht with
        busyIff := by simpa [hzone] using ht.busyIff
        dualIff := by simpa [hzone] using ht.dualIff
        streamingActive := by simpa [hzone] using ht.streamingActive }
    · exact ht.of_frame (hzone := if_neg hzone)
  unfold Machine.fieldStart
  dsimp only
  refine hwait _ _ ?_
  split
  · exact h.abortTeardown
  · exact h

/-- Whatever the sync side does keeps the ownership. -/
theorem syncSteps {s t : State} (h : BusInv s) (hst : SyncSteps s t) : BusInv t := by
  induction hst with
  | same hsame =>
    exact h.of_frame hsame.held (by rw [hsame.loe]) (by rw [hsame.loe]) (by rw [hsame.loe]) (by rw [hsame.arb])
      (by rw [hsame.arb]) (by rw [hsame.arb]) (by rw [hsame.arb]) hsame.pixValid
  | line => exact h.lineEvent
  | field => exact h.fieldStart
  | abort => exact h.abortTeardown
  | trans _ _ ihst ihtu => exact ihtu (ihst h)

/-- A command is issued only while the line output is idle, and a WRITE or READ only on a ready device (R403). -/
theorem startTransfer {s : State} (h : BusInv s) {k : XferKind} (hbusy : s.loe.busy = false)
    (hready : k = .init ∨ s.arb.ready = true) : BusInv (startTransfer k s) where
  nothingHeld := by simp [h.nothingHeld]
  busyIff := by simpa using h.busyIff
  dualIff := by simpa using h.dualIff
  xferMode _ := by
    rcases hready with rfl | hready
    · simp
    · cases hmode : s.arb.mode with
      | unknown => exact absurd hmode (h.readyKnown hready)
      | quad => simp [hmode]
      | dual => exact absurd hmode (h.mode_ne_dual hbusy)
  oneOwner _ := by simpa using h.mode_ne_dual hbusy
  readyKnown := by simpa using h.readyKnown
  streamingActive := by simpa using h.streamingActive
  pixelsStream := by simpa using h.pixelsStream

theorem issueCommand {s : State} (h : BusInv s) (k : XferKind) : BusInv (issueCommand k s) := by
  rcases issueCommand_cases k s with ⟨code, _, heq⟩ | ⟨hok, heq⟩
  · exact heq ▸ h.of_frame
  · obtain ⟨_, hbusy, hready⟩ := issueError_eq_none hok
    exact heq ▸ h.startTransfer hbusy hready

theorem fmCommand {s : State} (h : BusInv s) (op : BitVec 4) : BusInv (fmCommand op s) := by
  rcases fmCommand_cases op s with heq | ⟨k, heq⟩ | heq
  · exact heq ▸ h.of_frame rfl rfl rfl rfl rfl rfl rfl rfl rfl
  · exact heq ▸ h.issueCommand k
  · exact heq ▸ h.of_frame

/-- A transaction completes in quad mode; an INIT also makes the device ready there (R406 to R408, R410). -/
theorem xferDoneEvent {s : State} (h : BusInv s) : BusInv (xferDoneEvent s) := by
  unfold Machine.xferDoneEvent
  split
  · rename_i hxfer
    have hdual := h.oneOwner hxfer
    have hmode : (completeKind s).arb.mode ≠ .dual ∧
        ((completeKind s).arb.ready = true → (completeKind s).arb.mode ≠ .unknown) := by
      rcases completeKind_arb_cases s with heq | ⟨buf, heq⟩
      · simp [heq]
      · simpa [heq] using ⟨hdual, h.readyKnown⟩
    have hzone : ¬(s.loe.zone = .modeswitch ∨ s.loe.zone = .active) := fun hzone => hdual (h.dualIff.2 hzone)
    exact
      { nothingHeld := by simp [h.nothingHeld]
        busyIff := by simpa using h.busyIff
        dualIff := by simpa [hmode.1] using hzone
        xferMode := by simp
        oneOwner := by simp
        readyKnown := by simpa using hmode.2
        streamingActive := by simpa using h.streamingActive
        pixelsStream := by simpa using h.pixelsStream }
  · exact h

theorem unlessXfer {s : State} (h : BusInv s) {a : Arbiter} (hmode : a.mode = s.arb.mode) (hxfer : a.xfer = s.arb.xfer)
    (hkind : a.kind = s.arb.kind) (hready : a.ready = s.arb.ready) : BusInv (unlessXfer a s) := by
  unfold Machine.unlessXfer
  split
  · exact h
  · exact h.of_frame rfl rfl rfl rfl hmode hxfer hkind hready

theorem writeReg {s : State} (h : BusInv s) (r : Reg) (v : Word) : BusInv (writeReg r v s) := by
  rcases writeReg_cases r v s with hsync | ⟨addr, len, heq⟩ | heq | heq | ⟨op, heq⟩
  · exact h.syncSteps hsync
  · exact heq ▸ h.unlessXfer rfl rfl rfl rfl
  · exact heq ▸ h.unlessXfer rfl rfl rfl rfl
  · exact heq ▸ h.unlessXfer rfl rfl rfl rfl
  · exact heq ▸ h.fmCommand op

theorem readReg {s : State} (h : BusInv s) (r : Reg) : BusInv (readReg r s) := by
  rcases readReg_cases r s with ⟨a, v, heq⟩ | ⟨v, heq⟩
  · exact heq ▸ h.of_frame
  · exact heq ▸ h.of_frame

theorem pixStartEvent {s : State} (h : BusInv s) : BusInv (pixStartEvent s) := by
  unfold Machine.pixStartEvent
  split
  · exact { h with pixelsStream := fun _ => ‹_› }
  · exact h

theorem streamEndEvent {s : State} (h : BusInv s) : BusInv (streamEndEvent s) := by
  unfold Machine.streamEndEvent
  split
  · exact { h with streamingActive := nofun, pixelsStream := nofun }
  · exact h

end BusInv

/-- Whatever an event of a step has run keeps the ownership of the bus. -/
theorem Ran.keepsBus {i : Instr} {s t : State} (h : Ran s i t) (hi : nestedOnly i = false) (hs : BusInv s) :
    BusInv t := by
  cases h with
  | read r => exact hs.readReg r
  | write r v => exact hs.writeReg r v
  | reserved write a => exact reservedAccess_rule write a hs hs.of_frame
  | command op => exact hs.fmCommand op
  | qwrite | qread | dread | rstio | edio | eqio => exact hs.of_frame
  | csync => exact hs.syncSteps (.csyncEvent s)
  | vsync => exact hs.syncSteps (.vsyncEvent s)
  | cmp => exact hs.syncSteps (.cmpEvent s)
  | refTick => exact hs.syncSteps (.refTickEvent s)
  | genLine => exact hs.syncSteps (.genLineEvent s)
  | reset => exact .of_reset hs.nothingHeld rfl rfl rfl
  | hostWrite a v => exact hostWrite_rule a hs fun r => hs.writeReg r v
  | hostRead a => exact hostRead_rule a hs.of_frame hs.readReg
  | xferDone => exact hs.xferDoneEvent
  | pixStart => exact hs.pixStartEvent
  | streamEnd => exact hs.streamEndEvent
  | line => exact hs.lineEvent
  | verticalSync kind x => exact hs.syncSteps (.verticalSync kind x s)
  | timeout => exact hs.syncSteps (.timeoutSwitch s)
  | zone z hz =>
    rw [hz, nestedOnly_zoneRow] at hi
    nomatch hi
  | idle => exact hs

theorem BusInv.advance {s : State} (h : BusInv s) (d : Due) : BusInv (advance d s) :=
  h.of_frame rfl rfl rfl rfl rfl rfl rfl rfl rfl

/-- Settles O53: a step passes over a stimulus or runs an event's operation (`step_cases`), and both keep the ownership. A
line-output step runs there in the zone that ZONE names only, within a line event. -/
theorem stepKeepsBus : Obligations.StepKeepsBus := by
  intro s t hs hstep
  rcases step_cases hs.nothingHeld hstep with ⟨d, rfl⟩ | ⟨d, i, hi, hexec⟩
  · rw [setSource_eq]
    exact (hs.advance d).of_frame
  · exact (ran_of_exec hexec).keepsBus hi (hs.advance d)

/-! ### The sync source, the generator and the lock (R32, R205, R213) -/

namespace SyncInv

/-- The invariant speaks of these parts of the state only. -/
theorem of_frame {s t : State} (h : SyncInv s) (hheld : t.held = s.held := by simp)
    (hrunning : t.gen.running = s.gen.running := by simp) (hsrc : t.vstat.srcExt = s.vstat.srcExt := by simp)
    (henable : t.ctrl.enable = s.ctrl.enable := by simp) (hlock : t.cnt.vlock = s.cnt.vlock := by simp)
    (hoe : t.ports.syncOe = s.ports.syncOe := by simp) : SyncInv t where
  nothingHeld := hheld ▸ h.nothingHeld
  generatorIff := hrunning ▸ hsrc ▸ henable ▸ h.generatorIff
  lockExternal := hlock ▸ hsrc ▸ h.lockExternal
  outputEnable := hoe ▸ hrunning ▸ h.outputEnable

/-- The reset values: external sync, no lock, the generator off (R23, R27, R32, R42). -/
theorem of_reset {t : State} (hheld : t.held = none) (hvstat : t.vstat = Vstat.atReset)
    (hcnt : t.cnt = Counters.atReset) (hgen : t.gen = Generator.atReset) (hports : t.ports = Ports.atReset) :
    SyncInv t := by
  constructor <;> simp [hheld, hvstat, hcnt, hgen, hports, Vstat.atReset, Counters.atReset, Generator.atReset,
    Ports.atReset]

/-- Losing the lock keeps the rules. -/
theorem unlocked {s t : State} (h : SyncInv s) (hlock : t.cnt.vlock = false) (hheld : t.held = s.held := by simp)
    (hrunning : t.gen.running = s.gen.running := by simp) (hsrc : t.vstat.srcExt = s.vstat.srcExt := by simp)
    (henable : t.ctrl.enable = s.ctrl.enable := by simp) (hoe : t.ports.syncOe = s.ports.syncOe := by simp) :
    SyncInv t where
  nothingHeld := hheld ▸ h.nothingHeld
  generatorIff := hrunning ▸ hsrc ▸ henable ▸ h.generatorIff
  lockExternal hlocked := by simp [hlock] at hlocked
  outputEnable := hoe ▸ hrunning ▸ h.outputEnable

/-- A genuine vertical sync locks, and ends internal sync with its generator (R214). -/
theorem genuineSync {s : State} (h : SyncInv s) (ntsc : Bool) : SyncInv (genuineSync ntsc s) := by
  unfold Machine.genuineSync
  dsimp only
  split
  · rename_i hsrc
    exact { h with lockExternal := fun _ => hsrc }
  · exact { nothingHeld := h.nothingHeld, generatorIff := by simp, lockExternal := fun _ => rfl, outputEnable := rfl }

theorem verticalSync {s : State} (h : SyncInv s) (kind : SyncKind) (x : Bool) : SyncInv (verticalSync kind x s) := by
  have hfield : SyncInv (fieldStart s) := h.of_frame
  unfold Machine.verticalSync
  cases kind with
  | genuine => exact (hfield.genuineSync x).of_frame
  | internal => exact hfield.of_frame

theorem lineEvent {s : State} (h : SyncInv s) : SyncInv (lineEvent s) := h.of_frame

theorem vsyncEvent {s : State} (h : SyncInv s) : SyncInv (vsyncEvent s) := by
  unfold Machine.vsyncEvent
  split
  · exact h.verticalSync _ _
  · exact h

theorem csyncEvent {s : State} (h : SyncInv s) : SyncInv (csyncEvent s) := by
  have hstamp : SyncInv { s with det := { s.det with csLast := now s, csValid := true } } := h.of_frame
  unfold Machine.csyncEvent
  dsimp only
  split
  · split
    · exact h
    · split
      · exact hstamp.lineEvent
      · exact hstamp
  · exact h

theorem matchPattern {s : State} (h : SyncInv s) : SyncInv (matchPattern s) := by
  have hclear : SyncInv { s with det := { s.det with srCnt := 0 } } := h.of_frame
  unfold Machine.matchPattern
  dsimp only
  split
  · exact hclear.verticalSync _ _
  · split
    · exact hclear.verticalSync _ _
    · exact h

theorem loseLock {s : State} (h : SyncInv s) : SyncInv (loseLock s) := by
  have hlock : (Machine.loseLock s).cnt.vlock = false := by
    unfold Machine.loseLock
    dsimp only
    split <;> rfl
  exact h.unlocked hlock

theorem acceptedEdge {s : State} (h : SyncInv s) (delta : Nat) : SyncInv (acceptedEdge delta s) := by
  unfold Machine.acceptedEdge
  split
  · split
    · exact h.lineEvent
    · exact h.loseLock.matchPattern
  · exact h.matchPattern

theorem cmpEvent {s : State} (h : SyncInv s) : SyncInv (cmpEvent s) := by
  have hstamp : SyncInv { s with det := { s.det with capLast := now s, capValid := true } } := h.of_frame
  unfold Machine.cmpEvent
  dsimp only
  split
  · split
    · split
      · exact h
      · split
        · exact h
        · exact (hstamp.of_frame (t := classify _ _)).acceptedEdge _
    · exact hstamp
  · exact h

theorem syncPulses_lineEvent {s : State} (h : SyncInv s) : SyncInv (syncPulses (Machine.lineEvent s)) := h.of_frame

theorem genLineEvent {s : State} (h : SyncInv s) : SyncInv (genLineEvent s) := by
  have hnext : SyncInv { s with gen := { s.gen with
      next := stampAfter s (s.cfg.genLineClks.value s.gen.std),
      line := BitVec.ofNat 10 (s.gen.line.toNat % frameLines s.gen.std + 1) } } := h.of_frame
  unfold Machine.genLineEvent
  dsimp only
  split
  · refine syncPulses_lineEvent ?_
    split
    · exact hnext.verticalSync _ _
    · split
      · exact hnext.verticalSync _ _
      · exact hnext
  · exact h

/-- The generator is started on internal sync without a lock, with EN = 1 (R211, R218). -/
theorem startGenerator {s : State} (hheld : s.held = none) (hsrc : s.vstat.srcExt = false)
    (henable : s.ctrl.enable = true) (hlock : s.cnt.vlock = false) : SyncInv (startGenerator s) where
  nothingHeld := hheld
  generatorIff := ⟨fun _ => ⟨hsrc, henable⟩, fun _ => rfl⟩
  lockExternal hlocked := by simp [hlock] at hlocked
  outputEnable := rfl

theorem firstGenLine {s : State} (h : SyncInv s) : SyncInv (firstGenLine s) :=
  (h.verticalSync .internal true).syncPulses_lineEvent

theorem timeoutSwitch {s : State} (hheld : s.held = none) (henable : s.ctrl.enable = true) :
    SyncInv (timeoutSwitch s) := by
  unfold Machine.timeoutSwitch
  exact firstGenLine (startGenerator hheld rfl henable rfl)

theorem refTickEvent {s : State} (h : SyncInv s) : SyncInv (refTickEvent s) := by
  unfold Machine.refTickEvent
  dsimp only
  split
  · split
    · exact timeoutSwitch h.nothingHeld ‹_›
    · exact h.of_frame
  · exact h

/-- EN 1 to 0 ends the lock and the generator (R218). -/
theorem disableEffects {s : State} (hheld : s.held = none) (henable : s.ctrl.enable = false) :
    SyncInv (disableEffects s) where
  nothingHeld := by simpa using hheld
  generatorIff := by simp [henable]; rfl
  lockExternal hlocked := by
    have hlock : (Machine.disableEffects s).cnt.vlock = false := by
      unfold Machine.disableEffects
      dsimp only
      split <;> simp [syncModeEffects]
    simp [hlock] at hlocked
  outputEnable := rfl

/-- EN 0 to 1 starts the generator where sync is internal (R218). -/
theorem enableEffects {s : State} {old : Ctrl} (h : SyncInv { s with ctrl := old }) (hold : old.enable = false)
    (henable : s.ctrl.enable = true) : SyncInv (enableEffects s) := by
  unfold Machine.enableEffects
  dsimp only
  split
  · rename_i hsrc
    exact { h with generatorIff := by simpa [hold, hsrc] using h.generatorIff }
  · rename_i hsrc
    unfold restartGenerator
    exact firstGenLine (startGenerator h.nothingHeld (by simpa using hsrc) henable rfl)

/-- The effects of a change of EN bring the generator in line with the EN that has been written. -/
theorem enableChange {s : State} {old : Ctrl} (h : SyncInv { s with ctrl := old }) : SyncInv (enableChange old s) := by
  unfold Machine.enableChange
  split
  · exact h.of_frame (henable := ‹_›)
  · rename_i hchange
    split
    · rename_i henable
      exact h.enableEffects (by simpa [henable] using Ne.symm hchange) henable
    · rename_i henable
      exact disableEffects h.nothingHeld (by simpa using henable)

theorem writeCtrl {s : State} (h : SyncInv s) (v : Word) : SyncInv (writeCtrl v s) := by
  unfold Machine.writeCtrl
  dsimp only
  refine enableChange ?_
  split
  · exact h
  · exact h.unlocked rfl

theorem unlessXfer {s : State} (h : SyncInv s) (a : Arbiter) : SyncInv (unlessXfer a s) := by
  unfold Machine.unlessXfer
  split
  · exact h
  · exact h.of_frame

/-- Of the register writes only CTRL's reaches the sync side. -/
theorem writeReg {s : State} (h : SyncInv s) (r : Reg) (v : Word) : SyncInv (writeReg r v s) := by
  cases r with
  | ctrl => exact h.writeCtrl v
  | vstat | vstatSet | vstatClr | intPend | intEn
  | p0Hsize | p0Top | p0Bot | p0Hoff | p0Scan | p1Hsize | p1Top | p1Bot | p1Hoff | p1Scan =>
    exact h.of_frame rfl rfl rfl rfl rfl rfl
  | fmAddrLo | fmAddrHi | fmLen | fmWdata | fmBufptr => exact h.unlessXfer _
  | fmCmd => exact h.of_frame (t := fmCommand _ s)
  | line | lastCount | field | elapsed | fmStat | fmRdata | outResW | outResH | dbgSr | dbgSrcnt | dbgLastline | dbgAddrLo
  | dbgAddrHi => exact h

end SyncInv

/-- Whatever an event of a step has run keeps the rules of the sync source. -/
theorem Ran.keepsSync {i : Instr} {s t : State} (h : Ran s i t) (hi : nestedOnly i = false) (hs : SyncInv s) :
    SyncInv t := by
  cases h with
  | read | command | qwrite | qread | dread | rstio | edio | eqio | xferDone | pixStart | streamEnd | zone =>
    exact hs.of_frame
  | write r v => exact hs.writeReg r v
  | reserved write a => exact reservedAccess_rule write a hs hs.of_frame
  | csync => exact hs.csyncEvent
  | vsync => exact hs.vsyncEvent
  | cmp => exact hs.cmpEvent
  | refTick => exact hs.refTickEvent
  | genLine => exact hs.genLineEvent
  | reset => exact .of_reset hs.nothingHeld rfl rfl rfl rfl
  | hostWrite a v => exact hostWrite_rule a hs fun r => hs.writeReg r v
  | hostRead a => exact hostRead_rule a hs.of_frame fun _ => hs.of_frame
  | line => exact hs.lineEvent
  | verticalSync kind x => exact hs.verticalSync kind x
  | timeout hi' =>
    subst hi'
    nomatch hi
  | idle => exact hs

theorem SyncInv.advance {s : State} (h : SyncInv s) (d : Due) : SyncInv (advance d s) :=
  h.of_frame rfl rfl rfl rfl rfl rfl

/-- Settles O54: a step passes over a stimulus or runs an event's operation (`step_cases`), and both keep the rules. The
switch to internal sync runs there within a reference tick only, which has seen EN = 1. -/
theorem stepKeepsSync : Obligations.StepKeepsSync := by
  intro s t hs hstep
  rcases step_cases hs.nothingHeld hstep with ⟨d, rfl⟩ | ⟨d, i, hi, hexec⟩
  · rw [setSource_eq]
    exact (hs.advance d).of_frame
  · exact (ran_of_exec hexec).keepsSync hi (hs.advance d)

/-! ### The form and the range of the memories (R43, R84, R516) -/

/-- A memory of `size` bytes in its one form: rising addresses, all below `size`. -/
structure FitsIn (size : Nat) (m : Memory) : Prop where
  form : Memory.wf m = true
  range : ∀ c ∈ m, c.1 < size

namespace FitsIn

theorem nil (size : Nat) : FitsIn size [] := ⟨rfl, nofun⟩

theorem memWrite {size : Nat} {m : Memory} (h : FitsIn size m) {a : Nat} (ha : a < size) (b : Byte) :
    FitsIn size (memWrite m a b) where
  form := memWrite_wf _ _ _ h.form
  range := (memWithin_iff _ _).1 (memWrite_within _ _ _ _ ((memWithin_iff _ _).2 h.range) ha)

theorem memWriteBytes {size : Nat} {m : Memory} (h : FitsIn size m) (hsize : 0 < size) (a : Nat) (data : List Byte) :
    FitsIn size (memWriteBytes size m a data) where
  form := memWriteBytes_wf _ _ _ _ h.form
  range := (memWithin_iff _ _).1 (memWriteBytes_within _ _ _ _ ((memWithin_iff _ _).2 h.range) hsize)

theorem memForget {size : Nat} {m : Memory} (h : FitsIn size m) (lo n : Nat) : FitsIn size (memForget m lo n) where
  form := memForget_wf _ _ _ h.form
  range := (memWithin_iff _ _).1 (memForget_within _ _ _ _ ((memWithin_iff _ _).2 h.range))

end FitsIn

/-- R11: the frame memory has at least one byte. -/
theorem fmBytes_pos (c : Cfg) : 0 < c.fmBytes := by
  have hok := c.ok
  simp only [Params.ok, OpenParams.ok, Bool.and_eq_true, decide_eq_true_eq] at hok
  omega

/-- R11: the transfer buffer has at least one byte. -/
theorem bufDepth_pos (c : Cfg) : 0 < c.bufDepth := by
  have hok := c.ok
  simp only [Params.ok, StatedParams.ok, Bool.and_eq_true, decide_eq_true_eq] at hok
  omega

/-- A position below the depth stays below it in BUFPTR's 8 bits. -/
theorem toNat_ofNat_lt_of_lt {n depth : Nat} (h : n < depth) : (BitVec.ofNat 8 n).toNat < depth := by
  rw [BitVec.toNat_ofNat]
  exact (Nat.mod_le _ _).trans_lt h

namespace MemInv

theorem of_fits {s : State} (hdev : FitsIn s.cfg.fmBytes s.dev.mem) (hbuf : FitsIn s.cfg.bufDepth s.arb.buf)
    (hptr : s.arb.bufPtr.toNat < s.cfg.bufDepth) : MemInv s :=
  ⟨hdev.form, hdev.range, hbuf.form, hbuf.range, hptr⟩

theorem device {s : State} (h : MemInv s) : FitsIn s.cfg.fmBytes s.dev.mem := ⟨h.deviceForm, h.deviceRange⟩

theorem buffer {s : State} (h : MemInv s) : FitsIn s.cfg.bufDepth s.arb.buf := ⟨h.bufferForm, h.bufferRange⟩

/-- The device's memory may change within its form; nothing else does. -/
theorem of_device {s t : State} (h : MemInv s) (hdev : FitsIn s.cfg.fmBytes t.dev.mem)
    (hcfg : t.cfg = s.cfg := by simp) (hbuf : t.arb.buf = s.arb.buf := by simp)
    (hptr : t.arb.bufPtr = s.arb.bufPtr := by simp) : MemInv t :=
  of_fits (hcfg ▸ hdev) (hcfg ▸ hbuf ▸ h.buffer) (hcfg ▸ hptr ▸ h.pointerRange)

/-- The invariant speaks of these parts of the state only. -/
theorem of_frame {s t : State} (h : MemInv s) (hcfg : t.cfg = s.cfg := by simp)
    (hmem : t.dev.mem = s.dev.mem := by simp) (hbuf : t.arb.buf = s.arb.buf := by simp)
    (hptr : t.arb.bufPtr = s.arb.bufPtr := by simp) : MemInv t :=
  h.of_device (hmem ▸ h.device) hcfg hbuf hptr

/-! #### The device -/

theorem devScramble {s : State} (h : MemInv s) : MemInv (devScramble s) := h.of_device (.nil _)

theorem devEnter {s : State} (h : MemInv s) (m : DevMode) : MemInv (devEnter m s) := by
  unfold Machine.devEnter
  split
  · exact h.of_frame
  · exact h.devScramble

/-- A write frame's addresses are taken modulo the memory's size (R84). -/
theorem devWrite {s : State} (h : MemInv s) (start : DevMode) (a : FmAddr) (data : List Byte) :
    MemInv (devWrite start a data s) := by
  unfold Machine.devWrite
  split
  · exact h.of_device (h.device.memWriteBytes (fmBytes_pos _) _ _)
  · exact h.devScramble

theorem devRead {s : State} (h : MemInv s) (start m : DevMode) (k : Nat) (a : FmAddr) (n : Nat) :
    MemInv (devRead start m k a n s) := by
  have hout : MemInv { s with dev := { s.dev with out := devReadBytes start m k a n s } } := h.of_frame
  unfold Machine.devRead
  dsimp only
  split
  · exact hout
  · exact hout.devScramble

/-! #### The line output -/

theorem emitRow {s : State} (h : MemInv s) : MemInv (emitRow s) := by
  have hread := (h.of_frame (t := nextDraw s)).devRead s.dev.mode .dual s.sched.draws s.loe.addr s.loe.rw.toNat
  exact hread.of_frame rfl rfl rfl rfl

theorem teardown {s : State} (h : MemInv s) (switched : Bool) : MemInv (teardown switched s) := h.of_frame

theorem switchStep {s : State} (h : MemInv s) : MemInv (switchStep s) := by
  rcases switchStep_cases s with ⟨_, heq⟩ | ⟨_, _, heq⟩ | ⟨_, _, heq⟩
  · exact heq ▸ h.teardown false
  · exact heq.symm ▸ h
  · exact heq ▸ h.of_frame

theorem activeStep {s : State} (h : MemInv s) : MemInv (activeStep s) := by
  rcases activeStep_cases s with ⟨_, heq⟩ | ⟨_, heq⟩
  · exact heq ▸ h.teardown true
  · exact heq ▸ h.emitRow.of_frame

theorem zoneStep {s : State} (h : MemInv s) (z : Zone) : MemInv (zoneStep z s) := by
  cases z with
  | preroll => exact h.of_frame (t := prerollStep s)
  | setup => exact h.switchStep
  | modeswitch | active => exact h.activeStep
  | teardown => exact h

theorem loeStepIn {s : State} (h : MemInv s) (z : Zone) : MemInv (loeStepIn z s) := by
  rcases loeStepIn_cases z s with ⟨_, heq⟩ | ⟨_, _, heq⟩ | ⟨_, _, heq⟩
  · exact heq.symm ▸ h
  · exact heq ▸ (h.of_frame (t := cutStream true s)).zoneStep z
  · exact heq ▸ h.zoneStep z

theorem lineEvent {s : State} (h : MemInv s) : MemInv (lineEvent s) :=
  (h.of_frame (t := { s with cnt := { s.cnt with line := s.cnt.line + 1 } })).loeStepIn s.loe.zone

theorem abortTeardown {s : State} (h : MemInv s) : MemInv (abortTeardown s) := h.of_frame

theorem fieldStart {s : State} (h : MemInv s) : MemInv (fieldStart s) := by
  unfold Machine.fieldStart
  dsimp only
  split
  · exact h.abortTeardown.of_frame
  · exact h.of_frame

/-- Whatever the sync side does keeps the memories. -/
theorem syncSteps {s t : State} (h : MemInv s) (hst : SyncSteps s t) : MemInv t := by
  induction hst with
  | same hsame => exact h.of_frame hsame.cfg (by rw [hsame.dev]) (by rw [hsame.arb]) (by rw [hsame.arb])
  | line => exact h.lineEvent
  | field => exact h.fieldStart
  | abort => exact h.abortTeardown
  | trans _ _ ihst ihtu => exact ihtu (ihst h)

/-! #### The transfers and the registers -/

theorem fmCommand {s : State} (h : MemInv s) (op : BitVec 4) : MemInv (fmCommand op s) := by
  rcases fmCommand_cases op s with heq | ⟨k, heq⟩ | heq
  · exact heq ▸ h.of_frame rfl rfl rfl rfl
  · rcases issueCommand_cases k s with ⟨code, _, hk⟩ | ⟨_, hk⟩
    · exact heq ▸ hk ▸ h.of_frame
    · exact heq ▸ hk ▸ h.of_frame
  · exact heq ▸ h.of_frame

theorem completeInit {s : State} (h : MemInv s) : MemInv (completeInit s) :=
  ((h.of_frame (t := devRstio s)).devEnter .quad).of_frame rfl rfl rfl rfl

theorem completeWrite {s : State} (h : MemInv s) : MemInv (completeWrite s) := by
  have hwrite := h.devWrite s.sched.xferMode s.arb.fmAddr (bufBytes s.sched.xferDraw s)
  exact of_fits hwrite.device hwrite.buffer (bufDepth_pos _)

/-- The bytes of a READ go into the buffer modulo its depth, and BUFPTR to its first byte (R408). -/
theorem completeRead {s : State} (h : MemInv s) : MemInv (completeRead s) := by
  have hread := h.devRead s.sched.xferMode .quad s.sched.xferDraw s.arb.fmAddr s.arb.fmLen.toNat
  refine of_fits hread.device ?_ (bufDepth_pos _)
  simp only [Machine.completeRead, devRead_cfg, devRead_arb]
  exact h.buffer.memWriteBytes (bufDepth_pos _) _ _

theorem completeKind {s : State} (h : MemInv s) : MemInv (completeKind s) := by
  unfold Machine.completeKind
  split
  · exact h.completeInit
  · exact h.completeWrite
  · exact h.completeRead

theorem xferDoneEvent {s : State} (h : MemInv s) : MemInv (xferDoneEvent s) := by
  unfold Machine.xferDoneEvent
  split
  · exact h.completeKind.of_frame
  · exact h

/-- BUFPTR advances modulo the buffer's depth (R513, R514). -/
theorem nextBufPtr_lt (s : State) : (nextBufPtr s).toNat < s.cfg.bufDepth :=
  toNat_ofNat_lt_of_lt (Nat.mod_lt _ (bufDepth_pos _))

theorem unlessXfer {s : State} (h : MemInv s) {a : Arbiter} (hbuf : FitsIn s.cfg.bufDepth a.buf)
    (hptr : a.bufPtr.toNat < s.cfg.bufDepth) : MemInv (unlessXfer a s) := by
  unfold Machine.unlessXfer
  split
  · exact h
  · exact of_fits h.device hbuf hptr

theorem writeReg {s : State} (h : MemInv s) (r : Reg) (v : Word) : MemInv (writeReg r v s) := by
  rcases writeReg_cases r v s with hsync | ⟨addr, len, heq⟩ | heq | heq | ⟨op, heq⟩
  · exact h.syncSteps hsync
  · exact heq ▸ h.unlessXfer h.buffer h.pointerRange
  · exact heq ▸ h.unlessXfer (h.buffer.memWrite h.pointerRange _) (nextBufPtr_lt s)
  · exact heq ▸ h.unlessXfer h.buffer (toNat_ofNat_lt_of_lt (Nat.mod_lt _ (bufDepth_pos _)))
  · exact heq ▸ h.fmCommand op

theorem readReg {s : State} (h : MemInv s) (r : Reg) : MemInv (readReg r s) := by
  rcases readReg_cases r s with ⟨a, v, heq⟩ | ⟨v, heq⟩
  · exact heq ▸ h.of_frame
  · exact heq ▸ of_fits h.device h.buffer (nextBufPtr_lt s)

/-- A reset takes bytes of the device's memory away at most, and empties the buffer (R700). -/
theorem resetEvent {s : State} (h : MemInv s) : MemInv (resetEvent s) := by
  refine of_fits ?_ (.nil _) (bufDepth_pos _)
  show FitsIn s.cfg.fmBytes (resetDevice s).mem
  unfold resetDevice
  dsimp only
  split
  · exact .nil _
  · split
    · exact h.device.memForget _ _
    · exact h.device

end MemInv

/-- Whatever an operation has run keeps the memories. -/
theorem Ran.keepsMemory {i : Instr} {s t : State} (h : Ran s i t) (hs : MemInv s) : MemInv t := by
  have hdraw : MemInv (nextDraw s) := hs.of_frame
  cases h with
  | read r => exact hs.readReg r
  | write r v => exact hs.writeReg r v
  | reserved write a => exact reservedAccess_rule write a hs hs.of_frame
  | command op => exact hs.fmCommand op
  | qwrite a data => exact hs.devWrite _ a data
  | qread a n => exact hdraw.devRead _ _ _ a n
  | dread a n => exact hdraw.devRead _ _ _ a n
  | rstio | pixStart | streamEnd => exact hs.of_frame
  | edio => exact hs.devEnter .dual
  | eqio => exact hs.devEnter .quad
  | csync => exact hs.syncSteps (.csyncEvent s)
  | vsync => exact hs.syncSteps (.vsyncEvent s)
  | cmp => exact hs.syncSteps (.cmpEvent s)
  | refTick => exact hs.syncSteps (.refTickEvent s)
  | genLine => exact hs.syncSteps (.genLineEvent s)
  | reset => exact hs.resetEvent
  | hostWrite a v => exact hostWrite_rule a hs fun r => hs.writeReg r v
  | hostRead a => exact hostRead_rule a hs.of_frame hs.readReg
  | xferDone => exact hs.xferDoneEvent
  | line => exact hs.lineEvent
  | verticalSync kind x => exact hs.syncSteps (.verticalSync kind x s)
  | timeout => exact hs.syncSteps (.timeoutSwitch s)
  | zone z => exact hs.loeStepIn z
  | idle => exact hs

/-- Settles O55: what an operation has run, by `Ran`, keeps the memories. -/
theorem execKeepsMemory : Obligations.ExecKeepsMemory := fun _ _ _ hs hexec => (ran_of_exec hexec).keepsMemory hs

/-! ### After reset (R701, R702) -/

theorem reset_busInv : BusInv State.reset := .of_reset rfl rfl rfl rfl

theorem reset_syncInv : SyncInv State.reset := .of_reset rfl rfl rfl rfl rfl

theorem reset_memInv : MemInv State.reset := .of_fits (.nil _) (.nil _) (bufDepth_pos _)

theorem reset_deviceInv : DeviceInv State.reset where
  nothingHeld := rfl
  undisturbed := nofun
  quadTracks := nofun
  dualTracks := nofun
  startQuad := nofun

/-- The tables of R144 start their fields at lines of the frame. -/
theorem default_field1_range (std : Std) :
    1 ≤ (StatedParams.default.genTable std).field1 ∧
      (StatedParams.default.genTable std).field1 ≤ frameLines std := by
  cases std <;> decide

theorem reset_rangeInv : RangeInv State.reset where
  tableStart := default_field1_range
  captureStamp := Nat.two_pow_pos _
  csyncStamp := Nat.two_pow_pos _
  tickStamp := Nat.two_pow_pos _
  lineStamp := Nat.two_pow_pos _
  countRange := Nat.zero_le _
  lineRange := nofun
  modeFixed hsync := by simpa [State.reset, Ctrl.atReset] using hsync

/-- Settles O52, one invariant after another. -/
theorem resetMeetsInvariants : Obligations.ResetMeetsInvariants :=
  ⟨reset_busInv, reset_syncInv, reset_memInv, reset_deviceInv, reset_rangeInv⟩

end Sys2Proof.Machine
end

section
/-! PROOFS. The encoding (spec/30_encoding.md): where the fields of a word stand, what each format's decoder makes of an
encoded word, and the two round trips. -/

namespace Sys2Proof

/-! ### Words of two fields -/

theorem exists_append {m n : Nat} (x : BitVec (m + n)) : ∃ (hi : BitVec m) (low : BitVec n), x = hi ++ low :=
  ⟨_, _, BitVec.extractLsb'_append_extractLsb'.symm⟩

theorem toNat_append_add {m n : Nat} (hi : BitVec m) (low : BitVec n) :
    (hi ++ low).toNat = hi.toNat * 2 ^ n + low.toNat := by
  rw [BitVec.toNat_append, ← Nat.shiftLeft_add_eq_or_of_lt low.isLt, Nat.shiftLeft_eq]

/-- What holds of `hi` above every lower field holds of a word whose upper field has the value of `hi`. -/
theorem of_upper {m n : Nat} (hi : BitVec m) (x : BitVec (m + n)) {R : BitVec (m + n) → BitVec n → Prop}
    (hR : ∀ low, R (hi ++ low) low) (h : x.toNat / 2 ^ n = hi.toNat) : R x (x.extractLsb' 0 n) := by
  obtain ⟨upper, low, rfl⟩ := exists_append x
  rw [toNat_append_add, Nat.add_comm, Nat.add_mul_div_right _ _ (Nat.two_pow_pos n), Nat.div_eq_of_lt low.isLt,
    Nat.zero_add] at h
  rw [BitVec.eq_of_toNat_eq h, BitVec.extractLsb'_append_eq_right]
  exact hR low

/-- A format narrower than the word takes its own bits back out of it. -/
theorem extractLsb'_setWidth_self {n m : Nat} (x : BitVec n) (h : n ≤ m) : (x.setWidth m).extractLsb' 0 n = x := by
  rw [BitVec.extractLsb'_setWidth_of_le (by omega), BitVec.extractLsb'_eq_self]

/-! ### HOSTREG: the fields of an access word (R120) -/

theorem hostWord_write (w : Bool) (a : RegAddr) (d : Word) : (hostWord w a d).getLsbD 24 = w := by
  rw [hostWord, BitVec.getLsbD_append, BitVec.getLsbD_append]
  simp

theorem hostWord_addr (w : Bool) (a : RegAddr) (d : Word) : (hostWord w a d).extractLsb' 16 8 = a := by
  rw [hostWord, BitVec.extractLsb'_append_eq_of_le (by decide)]
  exact BitVec.extractLsb'_append_eq_right

theorem hostWord_data (w : Bool) (a : RegAddr) (d : Word) : (hostWord w a d).extractLsb' 0 16 = d :=
  BitVec.extractLsb'_append_eq_right

/-- Every access word has an `rw` bit, an address and data, and nothing else. -/
theorem exists_hostWord (access : BitVec 25) : ∃ (w : Bool) (a : RegAddr) (d : Word), access = hostWord w a d := by
  obtain ⟨upper, d, rfl⟩ := exists_append (m := 9) (n := 16) access
  obtain ⟨rwBit, a, rfl⟩ := exists_append (m := 1) (n := 8) upper
  obtain ⟨w, rfl⟩ : ∃ w, rwBit = BitVec.ofBool w := by revert rwBit; decide
  exact ⟨w, a, d, rfl⟩

theorem decode_hostFetch (c : CmdBytes) (w : Bool) (a : RegAddr) (d : Word) :
    decode c (hostFetch w a d) = .ok (decodeHost (hostWord w a d)) := by
  simp only [decode, hostFetch, extractLsb'_setWidth_self (hostWord w a d) (m := 32) (by decide)]

/-! ### HOSTREG: the registers (R122) -/

theorem regOf_addrOf (r : Reg) : regOf (addrOf r) = some r := by cases r <;> rfl

/-- A register stands at one address only: the map of R122, address by address. -/
theorem addrOf_of_mem_regOf : ∀ a : RegAddr, ∀ r ∈ regOf a, addrOf r = a := by decide

theorem decodeHost_of_reg {a : RegAddr} {r : Reg} (h : regOf a = some r) (w : Bool) (d : Word) :
    decodeHost (hostWord w a d) = if w then writeOf d r else readOf r := by
  simp only [decodeHost, hostWord_write, hostWord_addr, hostWord_data, h]

theorem encode_readOf (c : CmdBytes) (r : Reg) : encode c (readOf r) = hostFetch false (addrOf r) 0 := by
  cases r <;> rfl

theorem encode_writeOf (c : CmdBytes) (d : Word) (r : Reg) : encode c (writeOf d r) = hostFetch true (addrOf r) d := by
  cases r <;> rfl

theorem decode_read (c : CmdBytes) (r : Reg) : decode c (hostFetch false (addrOf r) 0) = .ok (readOf r) := by
  simp [decode_hostFetch, decodeHost_of_reg (regOf_addrOf r)]

theorem decode_write (c : CmdBytes) (d : Word) (r : Reg) :
    decode c (hostFetch true (addrOf r) d) = .ok (writeOf d r) := by
  simp [decode_hostFetch, decodeHost_of_reg (regOf_addrOf r)]

/-! ### HOSTREG: the reserved rows (R122, R520) -/

/-- The reserved rows of the table: the operation of an access to `a` with the `rw` bit `w` and the data `d`. -/
inductive ReservedRow (w : Bool) (d : Word) : RegAddr → Instr → Prop where
  | x19 : ReservedRow w d 0x19 (.reserved19 w d)
  | x1A (low : BitVec 1) : ReservedRow w d (0xD#7 ++ low) (.reserved1A w low d)
  | x1C (low : BitVec 2) : ReservedRow w d (0x7#6 ++ low) (.reserved1C w low d)
  | x25 : ReservedRow w d 0x25 (.reserved25 w d)
  | x26 (low : BitVec 1) : ReservedRow w d (0x13#7 ++ low) (.reserved26 w low d)
  | x2D : ReservedRow w d 0x2D (.reserved2D w d)
  | x2E (low : BitVec 1) : ReservedRow w d (0x17#7 ++ low) (.reserved2E w low d)
  | x30 (low : BitVec 4) : ReservedRow w d (0x3#4 ++ low) (.reserved30 w low d)
  | x40 (low : BitVec 6) : ReservedRow w d (0x1#2 ++ low) (.reserved40 w low d)
  | x80 (low : BitVec 7) : ReservedRow w d (0x1#1 ++ low) (.reserved80 w low d)

theorem reserved_range : ∀ a : RegAddr, regOf a = none →
    0x19 ≤ a.toNat ∧ a.toNat < 0x20 ∨ 0x25 ≤ a.toNat ∧ a.toNat < 0x28 ∨ 0x2D ≤ a.toNat := by
  decide

/-- The decoder gives every reserved address its row: the range that the address is in fixes the upper bits. -/
theorem decodeReserved_row {a : RegAddr} (h : regOf a = none) (w : Bool) (d : Word) :
    ReservedRow w d a (decodeReserved w a d) := by
  have hrange := reserved_range a h
  have hlt := a.isLt
  unfold decodeReserved
  split_ifs with h1A h1C h20 h26 h28 h2E h30 h40 h80
  · obtain rfl : a = 0x19 := BitVec.eq_of_toNat_eq (by simp; omega)
    exact .x19
  · exact of_upper 0xD#7 a (R := fun a low => ReservedRow w d a (.reserved1A w low d)) .x1A (by simp; omega)
  · exact of_upper 0x7#6 a (R := fun a low => ReservedRow w d a (.reserved1C w low d)) .x1C (by simp; omega)
  · obtain rfl : a = 0x25 := BitVec.eq_of_toNat_eq (by simp; omega)
    exact .x25
  · exact of_upper 0x13#7 a (R := fun a low => ReservedRow w d a (.reserved26 w low d)) .x26 (by simp; omega)
  · obtain rfl : a = 0x2D := BitVec.eq_of_toNat_eq (by simp; omega)
    exact .x2D
  · exact of_upper 0x17#7 a (R := fun a low => ReservedRow w d a (.reserved2E w low d)) .x2E (by simp; omega)
  · exact of_upper 0x3#4 a (R := fun a low => ReservedRow w d a (.reserved30 w low d)) .x30 (by simp; omega)
  · exact of_upper 0x1#2 a (R := fun a low => ReservedRow w d a (.reserved40 w low d)) .x40 (by simp; omega)
  · exact of_upper 0x1#1 a (R := fun a low => ReservedRow w d a (.reserved80 w low d)) .x80 (by simp; omega)

theorem decodeHost_of_reserved {a : RegAddr} (h : regOf a = none) (w : Bool) (d : Word) :
    ReservedRow w d a (decodeHost (hostWord w a d)) := by
  simp only [decodeHost, hostWord_write, hostWord_addr, hostWord_data, h]
  exact decodeReserved_row h w d

namespace ReservedRow

variable {w : Bool} {d : Word} {a : RegAddr} {i : Instr}

theorem encode_eq (c : CmdBytes) (h : ReservedRow w d a i) : encode c i = hostFetch w a d := by cases h <;> rfl

theorem regOf_eq_none (h : ReservedRow w d a i) : regOf a = none := by
  cases h with
  | x19 | x25 | x2D => rfl
  | x1A low | x1C low | x26 low | x2E low | x30 low | x40 low | x80 low => revert low; decide

/-- A row's upper bits put its addresses in the row's range, whatever the lower bits are. -/
theorem decodeReserved_eq (h : ReservedRow w d a i) : decodeReserved w a d = i := by
  cases h with
  | x19 | x25 | x2D => rfl
  | x1A low | x1C low | x26 low | x2E low | x30 low | x40 low | x80 low =>
    have hlow := low.isLt
    simp (disch := omega) only [decodeReserved, toNat_append_add, BitVec.toNat_ofNat,
      BitVec.extractLsb'_append_eq_right, if_pos, if_neg]

theorem decode_eq (c : CmdBytes) (h : ReservedRow w d a i) : decode c (hostFetch w a d) = .ok i := by
  simp only [decode_hostFetch, decodeHost, hostWord_write, hostWord_addr, hostWord_data, h.regOf_eq_none,
    h.decodeReserved_eq]

end ReservedRow

/-! ### FMCMD and ZONE (R126, R130) -/

theorem decode_fmCmdFetch (c : CmdBytes) (op : BitVec 4) : decode c (fmCmdFetch op) = .ok (decodeFmCmd op) := by
  simp only [decode, fmCmdFetch, extractLsb'_setWidth_self op (m := 32) (by decide)]

theorem decode_zoneFetch (c : CmdBytes) (z : BitVec 3) : decode c (zoneFetch z) = .ok (decodeZone z) := by
  simp only [decode, zoneFetch, extractLsb'_setWidth_self z (m := 32) (by decide)]

theorem decodeFmCmd_reserved4 (low : BitVec 2) : decodeFmCmd (1#2 ++ low) = .fmReserved4 low := by
  revert low; decide

theorem decodeFmCmd_reserved8 (low : BitVec 3) : decodeFmCmd (1#1 ++ low) = .fmReserved8 low := by
  revert low; decide

theorem decodeZone_reserved6 (low : BitVec 1) : decodeZone (3#2 ++ low) = .zoneReserved6 low := by
  revert low; decide

theorem fmCmd_rows (op : BitVec 4) : op = 0 ∨ op = 1 ∨ op = 2 ∨ op = 3 ∨
    (∃ low : BitVec 2, op = 1#2 ++ low) ∨ ∃ low : BitVec 3, op = 1#1 ++ low := by
  revert op; decide

theorem zone_rows (z : BitVec 3) :
    z = 0 ∨ z = 1 ∨ z = 2 ∨ z = 3 ∨ z = 4 ∨ z = 5 ∨ ∃ low : BitVec 1, z = 3#2 ++ low := by
  revert z; decide

theorem encode_decodeFmCmd (c : CmdBytes) (op : BitVec 4) : encode c (decodeFmCmd op) = fmCmdFetch op := by
  obtain rfl | rfl | rfl | rfl | ⟨low, rfl⟩ | ⟨low, rfl⟩ := fmCmd_rows op
  exacts [rfl, rfl, rfl, rfl, congrArg (encode c) (decodeFmCmd_reserved4 low),
    congrArg (encode c) (decodeFmCmd_reserved8 low)]

theorem encode_decodeZone (c : CmdBytes) (z : BitVec 3) : encode c (decodeZone z) = zoneFetch z := by
  obtain rfl | rfl | rfl | rfl | rfl | rfl | ⟨low, rfl⟩ := zone_rows z
  exacts [rfl, rfl, rfl, rfl, rfl, rfl, congrArg (encode c) (decodeZone_reserved6 low)]

/-! ### WIRE: the fields of a frame (R136, R137) -/

/-- What the device can tell apart in quad, dual and single mode. -/
theorem CmdBytes.distinct_iff (c : CmdBytes) :
    c.distinct = true ↔ c.write ≠ c.read ∧ c.write ≠ c.rstio ∧ c.read ≠ c.rstio ∧ c.edio ≠ c.eqio := by
  simp only [CmdBytes.distinct, Bool.and_eq_true, decide_eq_true_eq, and_assoc]

theorem wireFetch_cmd (mode : WireMode) (cmd : Byte) (a : FmAddr) (tail : List Byte) :
    (wireFetch mode cmd a tail).word.extractLsb' 0 8 = cmd :=
  BitVec.extractLsb'_append_eq_right

/-- The decoder takes the bytes of an address from the least significant end on (R85). -/
theorem frameAddr_append (low mid high cmd : Byte) : frameAddr (low ++ mid ++ high ++ cmd) = high ++ mid ++ low := by
  have hhigh : (low ++ mid ++ high ++ cmd).extractLsb' 8 8 = high :=
    (BitVec.extractLsb'_append_eq_of_le (by decide)).trans BitVec.extractLsb'_append_eq_right
  have hmid : (low ++ mid ++ high ++ cmd).extractLsb' 16 8 = mid :=
    (BitVec.extractLsb'_append_eq_of_le (by decide)).trans <|
      (BitVec.extractLsb'_append_eq_of_le (by decide)).trans BitVec.extractLsb'_append_eq_right
  have hlow : (low ++ mid ++ high ++ cmd).extractLsb' 24 8 = low :=
    (BitVec.extractLsb'_append_eq_of_le (by decide)).trans <|
      (BitVec.extractLsb'_append_eq_of_le (by decide)).trans BitVec.extractLsb'_append_eq_left
  rw [frameAddr, hhigh, hmid, hlow]

theorem frameAddr_wireFetch (mode : WireMode) (cmd : Byte) (a : FmAddr) (tail : List Byte) :
    frameAddr (wireFetch mode cmd a tail).word = a := by
  rw [wireFetch, frameAddr_append, BitVec.extractLsb'_append_extractLsb'_eq_extractLsb' (by decide),
    BitVec.extractLsb'_append_extractLsb'_eq_extractLsb' (by decide), BitVec.extractLsb'_eq_self]

theorem decode_wireFetch (c : CmdBytes) (mode : WireMode) (cmd : Byte) (a : FmAddr) (tail : List Byte) :
    decode c (wireFetch mode cmd a tail) = decodeWire c mode (wireFetch mode cmd a tail).word tail := rfl

/-! ### EVENT: the fields of an event word (R139; log entry 14) -/

theorem eventFetch_code (code : BitVec 5) (operand : BitVec 24) :
    (eventFetch code operand).word.extractLsb' 0 5 = code := by
  rw [eventFetch, BitVec.extractLsb'_append_eq_of_add_le (by decide), extractLsb'_setWidth_self code (by decide)]

theorem eventFetch_addr (code : BitVec 5) (a : RegAddr) (d : Word) :
    (eventFetch code (a ++ d)).word.extractLsb' 24 8 = a := by
  rw [eventFetch, BitVec.extractLsb'_append_eq_of_le (by decide)]
  exact BitVec.extractLsb'_append_eq_left

theorem eventFetch_data (code : BitVec 5) (a : RegAddr) (d : Word) :
    (eventFetch code (a ++ d)).word.extractLsb' 8 16 = d := by
  rw [eventFetch, BitVec.extractLsb'_append_eq_of_le (by decide)]
  exact BitVec.extractLsb'_append_eq_right

theorem eventFetch_bits (code : BitVec 5) (hi : BitVec 22) (b9 b8 : Bool) :
    (eventFetch code (hi ++ BitVec.ofBool b9 ++ BitVec.ofBool b8)).word.getLsbD 8 = b8 ∧
      (eventFetch code (hi ++ BitVec.ofBool b9 ++ BitVec.ofBool b8)).word.getLsbD 9 = b9 := by
  simp only [eventFetch, BitVec.getLsbD_append]
  simp

theorem decode_eventFetch (c : CmdBytes) (code : BitVec 5) (operand : BitVec 24) :
    decode c (eventFetch code operand) = decodeEvent (eventFetch code operand).word := rfl

theorem decode_evHostWr (c : CmdBytes) (a : RegAddr) (d : Word) :
    decode c (eventFetch 0x07 (a ++ d)) = .ok (.evHostWr a d) := by
  rw [decode_eventFetch, decodeEvent, eventFetch_code, eventFetch_addr, eventFetch_data]
  rfl

theorem decode_evHostRd (c : CmdBytes) (a : RegAddr) :
    decode c (eventFetch 0x08 (a ++ 0#16)) = .ok (.evHostRd a) := by
  rw [decode_eventFetch, decodeEvent, eventFetch_code, eventFetch_addr]
  rfl

theorem decode_vsyncEvent (c : CmdBytes) (kind : SyncKind) (x : Bool) :
    decode c (encode c (.vsyncEvent kind x)) = .ok (.vsyncEvent kind x) := by
  rw [encode, decode_eventFetch, decodeEvent, eventFetch_code, (eventFetch_bits _ _ _ _).1, (eventFetch_bits _ _ _ _).2]
  cases kind <;> rfl

/-! ### The round trips -/

theorem decode_encode (c : CmdBytes) (i : Instr) (hc : c.distinct = true) : decode c (encode c i) = .ok i := by
  cases i with
  | rdCtrl | rdVstat | rdVstatSet | rdVstatClr | rdLine | rdLastCount | rdField | rdElapsed | rdIntPend | rdIntEn
  | rdFmAddrLo | rdFmAddrHi | rdFmLen | rdFmCmd | rdFmStat | rdFmWdata | rdFmBufptr | rdFmRdata | rdOutResW | rdOutResH
  | rdDbgSr | rdDbgSrcnt | rdDbgLastline | rdDbgAddrLo | rdDbgAddrHi | rdP0Hsize | rdP0Top | rdP0Bot | rdP0Hoff
  | rdP0Scan | rdP1Hsize | rdP1Top | rdP1Bot | rdP1Hoff | rdP1Scan => exact decode_read c _
  | wrCtrl | wrVstat | wrVstatSet | wrVstatClr | wrLine | wrLastCount | wrField | wrElapsed | wrIntPend | wrIntEn
  | wrFmAddrLo | wrFmAddrHi | wrFmLen | wrFmCmd | wrFmStat | wrFmWdata | wrFmBufptr | wrFmRdata | wrOutResW | wrOutResH
  | wrDbgSr | wrDbgSrcnt | wrDbgLastline | wrDbgAddrLo | wrDbgAddrHi | wrP0Hsize | wrP0Top | wrP0Bot | wrP0Hoff
  | wrP0Scan | wrP1Hsize | wrP1Top | wrP1Bot | wrP1Hoff | wrP1Scan => exact decode_write c _ _
  | reserved19 => exact ReservedRow.x19.decode_eq c
  | reserved1A => exact (ReservedRow.x1A _).decode_eq c
  | reserved1C => exact (ReservedRow.x1C _).decode_eq c
  | reserved25 => exact ReservedRow.x25.decode_eq c
  | reserved26 => exact (ReservedRow.x26 _).decode_eq c
  | reserved2D => exact ReservedRow.x2D.decode_eq c
  | reserved2E => exact (ReservedRow.x2E _).decode_eq c
  | reserved30 => exact (ReservedRow.x30 _).decode_eq c
  | reserved40 => exact (ReservedRow.x40 _).decode_eq c
  | reserved80 => exact (ReservedRow.x80 _).decode_eq c
  | fmNop | fmInit | fmWrite | fmRead => exact decode_fmCmdFetch c _
  | fmReserved4 low => rw [encode, decode_fmCmdFetch, decodeFmCmd_reserved4]
  | fmReserved8 low => rw [encode, decode_fmCmdFetch, decodeFmCmd_reserved8]
  | qwrite | qread | dread | rstioQ | rstioD | rstioAny | edioS | eqioS =>
    obtain ⟨hwr, hws, hrs, hee⟩ := c.distinct_iff.1 hc
    simp [encode, decode_wireFetch, decodeWire, wireFetch_cmd, frameAddr_wireFetch, hwr.symm, hws.symm, hrs.symm,
      hee.symm]
  | evCsync | evVsync | evCmp | evRefTick | evGenLine | evReset | evXferDone | evPixStart | evStreamEnd | lineEvent
  | timeoutSwitch => rfl
  | evHostWr => exact decode_evHostWr c _ _
  | evHostRd => exact decode_evHostRd c _
  | vsyncEvent kind value => exact decode_vsyncEvent c kind value
  | zonePreroll | zoneSetup | zoneModeswitch | zoneActive | zoneTeardown | zoneReserved5 => exact decode_zoneFetch c _
  | zoneReserved6 => rw [encode, decode_zoneFetch, decodeZone_reserved6]

/-- Settles O2: an operation's words hold its fields where its format's decoder looks for them. -/
theorem decodeEncodeAgree : Obligations.DecodeEncodeAgree := fun c i hc => decode_encode c i hc

/-- A write keeps its data, an access to a reserved address keeps every bit, and a read keeps its data if it is 0. -/
theorem encode_decodeHost (c : CmdBytes) {w : Bool} {a : RegAddr} {d : Word} (h : w = true ∨ d = 0 ∨ regOf a = none) :
    encode c (decodeHost (hostWord w a d)) = hostFetch w a d := by
  cases ha : regOf a with
  | none => exact (decodeHost_of_reserved ha w d).encode_eq c
  | some r =>
    rw [decodeHost_of_reg ha]
    cases w with
    | true => exact addrOf_of_mem_regOf a r ha ▸ encode_writeOf c d r
    | false =>
      obtain rfl : d = 0 := by simpa [ha] using h
      exact addrOf_of_mem_regOf a r ha ▸ encode_readOf c r

/-- Settles O3, format by format. -/
theorem encodeDecodeAgree : Obligations.EncodeDecodeAgree := by
  refine fun c => ⟨fun access h => ?_, encode_decodeFmCmd c, encode_decodeZone c⟩
  obtain ⟨w, a, d, rfl⟩ := exists_hostWord access
  rw [hostWord_write, hostWord_addr, hostWord_data] at h
  exact encode_decodeHost c h

/-- A word that is an operation's encoding decodes to that operation. -/
theorem decode_default_of_encode {f : Fetch} {i : Instr} (h : encode CmdBytes.default i = f) :
    decode CmdBytes.default f = .ok i :=
  h ▸ decode_encode _ i rfl

/-- Settles O1: each word is the encoding of its operation. -/
theorem listedWordsDecode : Obligations.ListedWordsDecode := by
  unfold Obligations.ListedWordsDecode
  refine ⟨?_, ?_, ?_, ?_, ?_, ?_, ?_, ?_, ?_⟩ <;> exact decode_default_of_encode (by decide)

end Sys2Proof
end

section
/-! PROOFS. The host accesses (spec/30_encoding.md R120 to R134, spec/44_register_file.md): the rows of the host bus run
the register reads and writes of their addresses, and the words and fields of CTRL, VSTAT and the profiles. -/

namespace Sys2Proof.Machine

/-! ### The rows of the host bus -/

theorem exec_readOf (r : Reg) (s : State) : exec (readOf r) s = .next (readReg r s) := by cases r <;> rfl

theorem exec_writeOf (v : Word) (r : Reg) (s : State) : exec (writeOf v r) s = .next (writeReg r v s) := by
  cases r <;> rfl

theorem exec_of_reservedRow {w : Bool} {d : Word} {a : RegAddr} {i : Instr} (h : ReservedRow w d a i) (s : State) :
    exec i s = .next (reservedAccess w a s) := by
  cases h <;> rfl

/-- An access word does the write or the read of its address; a read does not look at the data bits (R120). -/
theorem exec_decodeHost (w : Bool) (a : RegAddr) (v : Word) (s : State) :
    exec (decodeHost (hostWord w a v)) s = .next (if w then hostWrite a v s else hostRead a s) := by
  cases ha : regOf a with
  | none =>
    rw [exec_of_reservedRow (decodeHost_of_reserved ha w v)]
    simp only [reservedAccess, hostWrite, hostRead, ha]
  | some r =>
    rw [decodeHost_of_reg ha]
    cases w with
    | true => simp only [hostWrite, ha, exec_writeOf, if_true]
    | false => simp only [hostRead, ha, exec_readOf, Bool.false_eq_true, if_false]

/-- Settles O19. -/
theorem hostEventsAreAccesses : Obligations.HostEventsAreAccesses := fun s a v =>
  ⟨(exec_decodeHost true a v s).symm, (exec_decodeHost false a v s).symm, ⟨hostWrite a v s, rfl⟩, ⟨hostRead a s, rfl⟩⟩

/-- A read has no side effect, but at FM_RDATA (R89). -/
theorem readReg_eq_afterRead {r : Reg} (hr : r ≠ .fmRdata) (s : State) :
    readReg r s = afterRead (addrOf r) (regWord s r) s := by
  cases r with
  | fmRdata => exact absurd rfl hr
  | _ => rfl

/-- The read of a register whose word is known. -/
theorem exec_readOf_of_regWord {r : Reg} {s : State} {v : Word} (hr : r ≠ .fmRdata) (hv : regWord s r = v) :
    exec (readOf r) s = .next (afterRead (addrOf r) v s) := by
  rw [exec_readOf, readReg_eq_afterRead hr, hv]

/-! ### CTRL and VSTAT (R123, R124) -/

theorem ctrlWord_eq (s : State) : ctrlWord s =
    BitVec.ofNat 16 (s.ctrl.enable.toNat + 2 * s.ctrl.outEn.toNat + 4 * s.ctrl.syncMode.toNat +
      8 * s.ctrl.profSel.toNat) := by
  apply BitVec.eq_of_toNat_eq
  have h0 := s.ctrl.enable.toNat_lt
  have h1 := s.ctrl.outEn.toNat_lt
  have h2 := s.ctrl.syncMode.toNat_lt
  have h3 := s.ctrl.profSel.toNat_lt
  simp only [ctrlWord, toNat_append_add, BitVec.toNat_ofBool, BitVec.toNat_ofNat]
  omega

theorem vstatWord_eq (s : State) : vstatWord s =
    BitVec.ofNat 16 (s.vstat.srcExt.toNat + 2 * (stdIsNtsc s.vstat.std).toNat + 4 * s.vstat.actIn.toNat +
      16 * s.vstat.vref0.toNat + 256 * s.vstat.vref1.toNat) := by
  apply BitVec.eq_of_toNat_eq
  have h0 := s.vstat.srcExt.toNat_lt
  have h1 := (stdIsNtsc s.vstat.std).toNat_lt
  have h2 := s.vstat.actIn.toNat_lt
  have h4 := s.vstat.vref0.isLt
  have h8 := s.vstat.vref1.isLt
  simp only [vstatWord, toNat_append_add, BitVec.toNat_ofBool, BitVec.toNat_ofNat]
  omega

/-- Settles O6: the words are the sums of their fields at their places. -/
theorem controlWords : Obligations.ControlWords := by
  refine fun s => ⟨exec_readOf_of_regWord (r := .ctrl) nofun (ctrlWord_eq s),
    exec_readOf_of_regWord (r := .vstat) nofun ((vstatWord_eq s).trans ?_)⟩
  cases s.vstat.std <;> rfl

/-! ### The profiles (R134, R521 to R525) -/

theorem setWidth_bit (b : Bool) : (bit b).setWidth 16 = BitVec.ofNat 16 b.toNat := by cases b <;> rfl

theorem writeScan_eq (p : Bool) (v : Word) (s : State) :
    writeScan p v s = putProfile p { profile p s with scan := decide (v.toNat % 2 = 1) } s := by
  simp [writeScan, BitVec.getLsbD, Nat.testBit_zero]

/-- The write of a register whose effect is known. -/
theorem exec_writeOf_of_writeReg {r : Reg} {v : Word} {s t : State} (h : writeReg r v s = t) :
    exec (writeOf v r) s = .next t := by
  rw [exec_writeOf, h]

/-- Settles O18: the words and the fields of the ten registers, one by one. -/
theorem profileRegisters : Obligations.ProfileRegisters := fun s v =>
  ⟨exec_readOf_of_regWord (r := .p0Hsize) nofun (BitVec.ofNat_toNat _ _).symm,
   exec_readOf_of_regWord (r := .p0Top) nofun (BitVec.ofNat_toNat _ _).symm,
   exec_readOf_of_regWord (r := .p0Bot) nofun (BitVec.ofNat_toNat _ _).symm,
   exec_readOf_of_regWord (r := .p0Hoff) nofun rfl,
   exec_readOf_of_regWord (r := .p0Scan) nofun (setWidth_bit _),
   exec_readOf_of_regWord (r := .p1Hsize) nofun (BitVec.ofNat_toNat _ _).symm,
   exec_readOf_of_regWord (r := .p1Top) nofun (BitVec.ofNat_toNat _ _).symm,
   exec_readOf_of_regWord (r := .p1Bot) nofun (BitVec.ofNat_toNat _ _).symm,
   exec_readOf_of_regWord (r := .p1Hoff) nofun rfl,
   exec_readOf_of_regWord (r := .p1Scan) nofun (setWidth_bit _),
   exec_writeOf_of_writeReg (r := .p0Hsize) rfl,
   exec_writeOf_of_writeReg (r := .p0Top) rfl,
   exec_writeOf_of_writeReg (r := .p0Bot) rfl,
   exec_writeOf_of_writeReg (r := .p0Hoff) rfl,
   exec_writeOf_of_writeReg (r := .p0Scan) (writeScan_eq false v s),
   exec_writeOf_of_writeReg (r := .p1Hsize) rfl,
   exec_writeOf_of_writeReg (r := .p1Top) rfl,
   exec_writeOf_of_writeReg (r := .p1Bot) rfl,
   exec_writeOf_of_writeReg (r := .p1Hoff) rfl,
   exec_writeOf_of_writeReg (r := .p1Scan) (writeScan_eq true v s)⟩

end Sys2Proof.Machine
end

section
/-! PROOFS. The sync detector (spec/41_sync_detector.md): what each event of the sync side does, case by case; the pulses
of a generated line; and the one writer of VSTAT.STD. -/

namespace Sys2Proof.Machine

/-! ### Line events (R204) -/

theorem exec_zoneRow (z : Zone) (s : State) : exec (zoneRow z) s = .next (loeStepIn z s) := by cases z <;> rfl

/-- LINE counts modulo 2^16 (R204). -/
theorem succ_eq_ofNat (line : BitVec 16) : line + 1 = BitVec.ofNat 16 ((line.toNat + 1) % 2 ^ 16) :=
  BitVec.eq_of_toNat_eq (by simp)

/-- Settles O40: the step of the current zone is the one that ZONE decodes to. -/
theorem lineEventSteps : Obligations.LineEventSteps := by
  refine fun s => ⟨?_, _, rfl⟩
  rw [exec_zoneRow, ← succ_eq_ofNat]
  rfl

/-! ### Vertical sync events (R214) -/

theorem zoneBusy_iff (z : Zone) : zoneBusy z = true ↔ holdsBus z := by cases z <;> simp [zoneBusy, holdsBus]

/-- Two sources raised in one cycle are pending together (R603). -/
theorem raiseInt_raiseInt (m n : IntSrc) (s : State) :
    raiseInt m (raiseInt n s) = { s with irq := irqAfter (intBit n ||| intBit m) s } := by
  simp [raiseInt_eq, irqAfter, BitVec.or_assoc]

@[simp] theorem abortTeardown_pulses (s : State) : (abortTeardown s).trace.pulses = s.trace.pulses := by
  rw [(abortTeardown_spec s : abortTeardown s = _)]

/-- What R214 does first: with OUT_EN = 1 a zone that holds the bus is torn down (R306). -/
def tornDown (s : State) : State := if s.ctrl.outEn && zoneBusy s.loe.zone then abortTeardown s else s

theorem tornDown_spec (s : State) :
    if s.ctrl.outEn = true ∧ holdsBus s.loe.zone then Aborted s (tornDown s) else tornDown s = s := by
  have hiff : (s.ctrl.outEn && zoneBusy s.loe.zone) = true ↔ s.ctrl.outEn = true ∧ holdsBus s.loe.zone := by
    rw [Bool.and_eq_true, zoneBusy_iff]
  split
  · rw [tornDown, if_pos (hiff.2 ‹_›)]
    exact abortTeardown_spec s
  · exact if_neg (hiff.not.2 ‹_›)

/-- A part of the state that a forced teardown leaves alone is the same after R214's first step. -/
theorem tornDown_frame {α : Type} {f : State → α} {s : State} (h : f (abortTeardown s) = f s) : f (tornDown s) = f s := by
  unfold tornDown
  split
  · exact h
  · rfl

@[simp] theorem tornDown_vstat (s : State) : (tornDown s).vstat = s.vstat := tornDown_frame (f := State.vstat) (by simp)

@[simp] theorem tornDown_cnt (s : State) : (tornDown s).cnt = s.cnt := tornDown_frame (f := State.cnt) (by simp)

@[simp] theorem tornDown_pulses (s : State) : (tornDown s).trace.pulses = s.trace.pulses :=
  tornDown_frame (f := fun t => t.trace.pulses) (by simp)

theorem fieldStart_eq (s : State) :
    fieldStart s = { tornDown s with
      cnt := { s.cnt with lastCount := s.cnt.line, line := 0 },
      loe := { (tornDown s).loe with
        zone := if (tornDown s).loe.zone = .teardown then .preroll else (tornDown s).loe.zone } } := by
  rw [← tornDown_cnt s]
  rfl

/-- Everything a genuine vertical sync event does (R214). -/
theorem verticalSync_genuine_eq (x : Bool) (s : State) :
    verticalSync .genuine x s = { tornDown s with
      vstat := { s.vstat with std := if x then .ntsc else .pal, srcExt := true },
      cnt := { lastCount := s.cnt.line, line := 0, elapsed := 0, vlock := true, parity := !s.cnt.parity },
      loe := { (tornDown s).loe with
        zone := if (tornDown s).loe.zone = .teardown then .preroll else (tornDown s).loe.zone },
      gen := if s.vstat.srcExt then (tornDown s).gen else { (tornDown s).gen with running := false },
      ports := if s.vstat.srcExt then (tornDown s).ports else { (tornDown s).ports with syncOe := false },
      irq := irqAfter (if s.vstat.srcExt then 0x001 else 0x005) (tornDown s),
      trace := { (tornDown s).trace with
        pulses := if s.vstat.srcExt then s.trace.pulses
                  else cutPulses (tornDown s).sched.clock s.trace.pulses } } := by
  have hstd : stdOf x = if x then .ntsc else .pal := rfl
  have htrace : { (tornDown s).trace with pulses := s.trace.pulses } = (tornDown s).trace := by rw [← tornDown_pulses]
  cases hext : s.vstat.srcExt with
  | true => simp [verticalSync, genuineSync, fieldStart_eq, raiseInt_eq, irqAfter, hstd, hext, htrace]
  | false =>
    simp [verticalSync, genuineSync, fieldStart_eq, raiseInt_raiseInt, irqAfter, hstd, hext, syncOutHigh]

/-- Everything an internal vertical sync event does (R214). -/
theorem verticalSync_internal_eq (x : Bool) (s : State) :
    verticalSync .internal x s = { tornDown s with
      cnt := { s.cnt with lastCount := s.cnt.line, line := 0, parity := x },
      loe := { (tornDown s).loe with
        zone := if (tornDown s).loe.zone = .teardown then .preroll else (tornDown s).loe.zone },
      irq := irqAfter 0x001 (tornDown s) } := by
  simp [verticalSync, fieldStart_eq, raiseInt_eq, irqAfter]

/-! ### Pulses of `sync_out` (R213) -/

/-- Whether a pulse of the list is low at a cycle. -/
def LowAt (cycle : Nat) (l : List Pulse) : Prop := ∃ p ∈ l, p.start ≤ cycle ∧ cycle < p.stop

theorem pinSyncOut_eq_false_iff (s : State) : pinSyncOut s = false ↔ LowAt s.sched.clock s.trace.pulses := by
  simp [pinSyncOut, LowAt]

theorem syncOutAfter_eq_false_iff (n : Nat) (s : State) :
    syncOutAfter n s = false ↔ LowAt (s.sched.clock + n) s.trace.pulses :=
  pinSyncOut_eq_false_iff (later n s)

/-- A new pulse adds its own window. -/
theorem lowAt_pushPulse (cycle start width : Nat) (l : List Pulse) :
    LowAt cycle (pushPulse start width l) ↔ (start ≤ cycle ∧ cycle < start + width) ∨ LowAt cycle l := by
  unfold pushPulse LowAt
  split
  · rw [or_iff_right (by omega)]
  · simp

theorem not_lowAt_cutPulses (clock n : Nat) (l : List Pulse) : ¬LowAt (clock + n) (cutPulses clock l) :=
  fun ⟨p, hp, hlow⟩ => cutPulses_high clock l p hp n hlow

/-- After `sync_out <- 1` it stays 1 (R213). -/
theorem syncOutAfter_of_cut {s : State} {l : List Pulse} (h : s.trace.pulses = cutPulses s.sched.clock l) (n : Nat) :
    syncOutAfter n s = true := by
  rw [← Bool.not_eq_false, syncOutAfter_eq_false_iff, h]
  exact not_lowAt_cutPulses _ _ _

/-- The windows of the line's two slots are the only low pulses: the earlier ones are cut (R213). -/
theorem syncPulses_linePulses (s : State) : LinePulses (syncPulses s) := by
  intro n
  rw [syncOutAfter_eq_false_iff]
  simp only [syncPulses, lowAt_pushPulse, not_lowAt_cutPulses, or_false]
  omega

/-- Settles O39: `tornDown s` is the state after the forced teardown, from which both kinds of event go on. -/
theorem verticalSync_spec : Obligations.VerticalSync := by
  refine fun s x => ⟨tornDown s, verticalSync .genuine x s, verticalSync .internal x s, tornDown_spec s, rfl, ?genuine,
    ?pulses, rfl, verticalSync_internal_eq x s⟩
  case genuine =>
    rw [verticalSync_genuine_eq, tornDown_vstat]
  case pulses =>
    rw [verticalSync_genuine_eq]
    cases hext : s.vstat.srcExt with
    | true => rfl
    | false => exact fun n => syncOutAfter_of_cut rfl n

/-! ### Internal generator (R211 to R213) -/

@[simp] theorem verticalSync_internal_gen (x : Bool) (s : State) : (verticalSync .internal x s).gen = s.gen := by
  simp [verticalSync]

@[simp] theorem verticalSync_internal_vstat (x : Bool) (s : State) :
    (verticalSync .internal x s).vstat = s.vstat := by
  simp [verticalSync]

/-- Settles O37: the switch is these steps one after another, and `syncPulses` ends it. -/
theorem switchToInternal : Obligations.SwitchToInternal := fun _ =>
  ⟨_, _, _, rfl, rfl, rfl, rfl, syncPulses_linePulses _⟩

theorem genLineEvent_of_gated {s : State} (h : s.ctrl.enable = false ∨ s.gen.running = false) : genLineEvent s = s := by
  rcases h with h | h <;> simp [genLineEvent, h]

/-- The vertical sync event that comes before the generated line `n`, if that line starts a field (R212). -/
def genFieldStart (n : Nat) (s : State) : State :=
  if n = (s.cfg.genTable s.gen.std).field1 then verticalSync .internal true s
  else if n = (s.cfg.genTable s.gen.std).field2 then verticalSync .internal false s
  else s

theorem genFieldStart_cases (n : Nat) (s : State) :
    (∃ odd, genFieldStart n s = verticalSync .internal odd s) ∨ genFieldStart n s = s := by
  unfold genFieldStart
  split
  · exact .inl ⟨true, rfl⟩
  · split
    · exact .inl ⟨false, rfl⟩
    · exact .inr rfl

@[simp] theorem genFieldStart_gen (n : Nat) (s : State) : (genFieldStart n s).gen = s.gen := by
  rcases genFieldStart_cases n s with ⟨odd, heq⟩ | heq <;> simp [heq]

@[simp] theorem genFieldStart_cfg (n : Nat) (s : State) : (genFieldStart n s).cfg = s.cfg := by
  rcases genFieldStart_cases n s with ⟨odd, heq⟩ | heq <;> simp [heq]

@[simp] theorem genFieldStart_vstat (n : Nat) (s : State) : (genFieldStart n s).vstat = s.vstat := by
  rcases genFieldStart_cases n s with ⟨odd, heq⟩ | heq <;> simp [heq]

/-- `s` with the generator at line `n` and the cycle of the line after it set (R212). -/
def atGenLine (n : Nat) (s : State) : State :=
  { s with gen := { s.gen with next := stampAfter s (s.cfg.genLineClks.value s.gen.std), line := BitVec.ofNat 10 n } }

theorem genLineEvent_of_running {s : State} (hen : s.ctrl.enable = true) (hrun : s.gen.running = true) :
    genLineEvent s = syncPulses (lineEvent (genFieldStart (s.gen.line.toNat % frameLines s.gen.std + 1)
      (atGenLine (s.gen.line.toNat % frameLines s.gen.std + 1) s))) := by
  unfold genLineEvent
  rw [hen, hrun]
  rfl

/-- Settles O38: the field start, the line event and the pulses, at a line number that GEN_LINE's 10 bits hold. -/
theorem generatedLine : Obligations.GeneratedLine := by
  refine fun s => ⟨fun hgate => congrArg Host.Outcome.next (genLineEvent_of_gated hgate), fun hen hrun n u hn hu => ?_⟩
  have hframe : n = s.gen.line.toNat % frameLines s.gen.std + 1 := by
    rw [hn]
    cases s.gen.std <;> rfl
  have hstart : u = atGenLine n s := hu
  refine ⟨genFieldStart n u, lineEvent (genFieldStart n u), syncPulses (lineEvent (genFieldStart n u)), ?field, rfl,
    ?line, rfl, ?pulses⟩
  case field =>
    subst hu
    unfold genFieldStart
    dsimp only
    split
    · rfl
    · split <;> rfl
  case line =>
    rw [hstart, hframe]
    exact congrArg Host.Outcome.next (genLineEvent_of_running hen hrun)
  case pulses =>
    have hline : (BitVec.ofNat 10 n).toNat = n := toNat_genLine (hframe ▸ (nextGenLine_range _ _).2)
    have hlow := syncPulses_linePulses (lineEvent (genFieldStart n u))
    simpa only [LinePulses, syncPulses_cfg, syncPulses_gen, lineEvent_cfg, lineEvent_gen, genFieldStart_cfg,
      genFieldStart_gen, hstart, atGenLine, hline] using hlow

/-! ### Reference timer (R210) -/

theorem refTickEvent_of_disabled {s : State} (h : s.ctrl.enable = false) : refTickEvent s = s := by
  simp [refTickEvent, h]

/-- `s` after a reference tick, before the timeout is looked at (R210). -/
def ticked (s : State) : State :=
  { s with gen := { s.gen with refNext := stampAfter s s.cfg.refPeriod },
           cnt := { s.cnt with elapsed := satSucc16 s.cnt.elapsed } }

theorem refTickEvent_of_enabled {s : State} (hen : s.ctrl.enable = true) :
    refTickEvent s = if s.vstat.srcExt = true ∧ s.cfg.intTimeout ≤ (ticked s).cnt.elapsed.toNat
      then timeoutSwitch (ticked s) else ticked s := by
  unfold refTickEvent
  exact (if_pos hen).trans (if_congr (by simp [ticked]) rfl rfl)

/-- ELAPSED stays at 0xFFFF once it is there (R13, R210). -/
theorem satSucc16_eq (e : BitVec 16) : satSucc16 e = if e = 0xFFFF then 0xFFFF else e + 1 := by
  unfold satSucc16
  split
  · subst e
    rfl
  · rename_i hmax
    have hlt : e.toNat < 0xFFFF := by bv_omega
    apply BitVec.eq_of_toNat_eq
    rw [Nat.min_eq_left hlt, BitVec.toNat_add, BitVec.toNat_ofNat]
    rfl

/-- Settles O36: the timeout is looked at on the new ELAPSED. -/
theorem referenceTick : Obligations.ReferenceTick := by
  intro s u hu
  obtain rfl : u = ticked s := by
    rw [hu, ← satSucc16_eq]
    rfl
  exact ⟨fun hdis => congrArg Host.Outcome.next (refTickEvent_of_disabled hdis),
    fun hen hout => ⟨congrArg Host.Outcome.next ((refTickEvent_of_enabled hen).trans (if_pos hout)), _, rfl⟩,
    fun hen hin => congrArg Host.Outcome.next ((refTickEvent_of_enabled hen).trans (if_neg hin))⟩

/-! ### External-pulse path (R201 to R203) -/

/-- R200, R201: EN = 0 or the comparator path. -/
theorem csyncEvent_of_gated {s : State} (h : s.ctrl.enable = false ∨ s.ctrl.syncMode = true) : csyncEvent s = s := by
  rcases h with h | h <;> simp [csyncEvent, h]

theorem csyncEvent_of_noise {s : State} (h : csyncNoise s = true) : csyncEvent s = s := by
  simp [csyncEvent, h]

theorem csyncEvent_of_accepted {s : State} (hen : s.ctrl.enable = true) (hmode : s.ctrl.syncMode = false)
    (hnoise : csyncNoise s = false) :
    csyncEvent s = if s.vstat.srcExt then lineEvent { s with det := { s.det with csLast := now s, csValid := true } }
      else { s with det := { s.det with csLast := now s, csValid := true } } := by
  simp [csyncEvent, hen, hmode, hnoise]

/-- The filter discards an edge that follows an accepted one by less than P_EXT_MIN_DELTA (R202). -/
theorem csyncNoise_iff (s : State) :
    csyncNoise s = true ↔ s.det.csValid = true ∧ stampDelta s.cfg (now s) s.det.csLast < s.cfg.extMinDelta := by
  simp [csyncNoise]

/-- Settles O32: the gate, the filter, and the two outcomes of an accepted edge. -/
theorem csyncEdge : Obligations.CsyncEdge := by
  rintro s u _ rfl rfl
  refine ⟨fun hgate => congrArg Host.Outcome.next (csyncEvent_of_gated hgate), fun _ _ hvalid hnear => ?noise,
    fun hen hmode hfar => ?accepted⟩
  case noise => exact congrArg Host.Outcome.next (csyncEvent_of_noise ((csyncNoise_iff s).2 ⟨hvalid, hnear⟩))
  case accepted =>
    have hnoise : csyncNoise s = false := by
      rw [← Bool.not_eq_true, csyncNoise_iff]
      exact fun ⟨hvalid, hnear⟩ => Nat.not_lt.2 (hfar hvalid) hnear
    have heq := csyncEvent_of_accepted hen hmode hnoise
    exact ⟨fun hext => ⟨congrArg Host.Outcome.next (heq.trans (if_pos hext)), _, rfl⟩,
      fun hint => congrArg Host.Outcome.next (heq.trans (if_neg (by simp [hint])))⟩

theorem vsyncEvent_of_gated {s : State} (h : s.ctrl.enable = false ∨ s.ctrl.syncMode = true) : vsyncEvent s = s := by
  rcases h with h | h <;> simp [vsyncEvent, h]

theorem vsyncEvent_of_enabled {s : State} (hen : s.ctrl.enable = true) (hmode : s.ctrl.syncMode = false) :
    vsyncEvent s = verticalSync .genuine (stdIsNtsc (stdOfCount s.cfg s.cnt.line)) s := by
  simp [vsyncEvent, hen, hmode]

/-- A field of fewer than P_STD_LINE_THRESHOLD lines is an NTSC field (R203). -/
theorem stdIsNtsc_stdOfCount (c : Cfg) (lines : BitVec 16) :
    stdIsNtsc (stdOfCount c lines) = decide (lines.toNat < c.stdLineThreshold) := by
  unfold stdOfCount
  split
  · simp [stdIsNtsc, *]
  · simp [stdIsNtsc, Nat.lt_of_not_le ‹_›]

/-- Settles O33: the standard is told from the lines of the field that ends. -/
theorem vsyncEdge : Obligations.VsyncEdge := by
  refine fun s => ⟨fun hgate => congrArg Host.Outcome.next (vsyncEvent_of_gated hgate), fun hen hmode => ⟨?_, _, rfl⟩⟩
  rw [← stdIsNtsc_stdOfCount]
  exact congrArg Host.Outcome.next (vsyncEvent_of_enabled hen hmode)

/-! ### Comparator path (R205 to R209) -/

theorem cmpEvent_of_gated {s : State} (h : s.ctrl.enable = false ∨ s.ctrl.syncMode = false) : cmpEvent s = s := by
  rcases h with h | h <;> simp [cmpEvent, h]

/-- The first edge is the reference of the next interval (R205). -/
theorem cmpEvent_of_first {s : State} (hen : s.ctrl.enable = true) (hmode : s.ctrl.syncMode = true)
    (hfirst : s.det.capValid = false) :
    cmpEvent s = { s with det := { s.det with capLast := now s, capValid := true } } := by
  simp [cmpEvent, hen, hmode, hfirst]

/-- An edge inside the settle window or below the minimum delta is discarded (R206, R207). -/
theorem cmpEvent_of_filtered {s : State} (hvalid : s.det.capValid = true)
    (hnear : stampDelta s.cfg (now s) s.det.capLast < s.cfg.settle ∨
      stampDelta s.cfg (now s) s.det.capLast < s.cfg.minDelta) : cmpEvent s = s := by
  rcases hnear with hnear | hnear <;> simp [cmpEvent, hvalid, hnear]

theorem cmpEvent_of_accepted {s : State} (hen : s.ctrl.enable = true) (hmode : s.ctrl.syncMode = true)
    (hvalid : s.det.capValid = true) (hsettle : s.cfg.settle ≤ stampDelta s.cfg (now s) s.det.capLast)
    (hmin : s.cfg.minDelta ≤ stampDelta s.cfg (now s) s.det.capLast) :
    cmpEvent s = acceptedEdge (stampDelta s.cfg (now s) s.det.capLast)
      (classify (stampDelta s.cfg (now s) s.det.capLast)
        { s with det := { s.det with capLast := now s, capValid := true } }) := by
  simp [cmpEvent, hen, hmode, hvalid, Nat.not_lt.2 hsettle, Nat.not_lt.2 hmin]

/-- Settles O34: the cases before an edge is accepted. -/
theorem comparatorEdgeFiltered : Obligations.ComparatorEdgeFiltered := by
  rintro s _ _ rfl rfl
  exact ⟨fun hgate => congrArg Host.Outcome.next (cmpEvent_of_gated hgate),
    fun hen hmode hfirst => congrArg Host.Outcome.next (cmpEvent_of_first hen hmode hfirst),
    fun _ _ hvalid hnear => congrArg Host.Outcome.next (cmpEvent_of_filtered hvalid hnear), _, rfl⟩

/-- A new class bit enters SR at its low end (R207, R141). -/
theorem shiftLeft_or_bit (sr : BitVec 16) (b : Bool) :
    sr.shiftLeft 1 ||| (bit b).setWidth 16 = BitVec.ofNat 16 (2 * sr.toNat + b.toNat) := by
  have hconcat : sr.shiftLeft 1 ||| (bit b).setWidth 16 = sr.shiftConcat b := by
    ext i hi
    cases i with
    | zero => simp
    | succ i => simp
  apply BitVec.eq_of_toNat_eq
  rw [hconcat, BitVec.toNat_shiftConcat, BitVec.toNat_ofNat, Nat.shiftLeft_eq, Nat.mul_comm, Nat.pow_one]

/-- What the classification of an interval does, in numbers (R207, R141). -/
theorem classify_eq (delta : Nat) (s : State) :
    classify delta s = { s with det := { s.det with
      sr := if s.cfg.shortMin ≤ delta ∧ delta ≤ s.cfg.shortMax then BitVec.ofNat 16 (2 * s.det.sr.toNat)
            else if s.cfg.longMin ≤ delta ∧ delta ≤ s.cfg.longMax then BitVec.ofNat 16 (2 * s.det.sr.toNat + 1)
            else 0,
      srCnt := if (s.cfg.shortMin ≤ delta ∧ delta ≤ s.cfg.shortMax) ∨ (s.cfg.longMin ≤ delta ∧ delta ≤ s.cfg.longMax)
               then BitVec.ofNat 5 (min (s.det.srCnt.toNat + 1) 16) else 0 } } := by
  unfold classify classOf
  by_cases hshort : s.cfg.shortMin ≤ delta ∧ delta ≤ s.cfg.shortMax
  · simp only [hshort, and_self, true_or, if_true, shiftLeft_or_bit, satSucc5]
    rfl
  · by_cases hlong : s.cfg.longMin ≤ delta ∧ delta ≤ s.cfg.longMax
    · simp only [hshort, hlong, and_self, or_true, if_true, if_false, shiftLeft_or_bit, satSucc5]
      rfl
    · simp only [hshort, hlong, or_self, if_false]

/-- Lock loss, part by part (R205, R209). -/
theorem loseLock_eq (s : State) :
    loseLock s = { s with
      cnt := { s.cnt with vlock := false }, irq := irqAfter 0x002 s,
      det := { s.det with sr := if s.cfg.clearSrOnLockLoss then 0 else s.det.sr,
                          srCnt := if s.cfg.clearSrOnLockLoss then 0 else s.det.srCnt } } := by
  unfold loseLock
  cases hclear : s.cfg.clearSrOnLockLoss <;> simp [raiseInt_eq, irqAfter]

/-- A full register with the pattern of a standard is a genuine vertical sync event of that standard (R208). -/
theorem next_matchPattern (s : State) :
    Host.Outcome.next (matchPattern s) =
      if s.det.srCnt = 16 ∧ s.det.sr = s.cfg.patPal then
        exec (.vsyncEvent .genuine false) { s with det := { s.det with srCnt := 0 } }
      else if s.det.srCnt = 16 ∧ s.det.sr = s.cfg.patNtsc then
        exec (.vsyncEvent .genuine true) { s with det := { s.det with srCnt := 0 } }
      else .next s := by
  have hfull : s.det.srCnt.toNat = 16 ↔ s.det.srCnt = 16 := BitVec.toNat_inj (y := 16)
  unfold matchPattern
  simp only [hfull]
  split
  · rfl
  · split <;> rfl

theorem acceptedEdge_of_line {delta : Nat} {s : State} (hlock : s.cnt.vlock = true)
    (htol : withinLineTol s.cfg delta = true) : acceptedEdge delta s = lineEvent s := by
  simp [acceptedEdge, hlock, htol]

theorem acceptedEdge_of_lost {delta : Nat} {s : State} (hlock : s.cnt.vlock = true)
    (htol : withinLineTol s.cfg delta = false) : acceptedEdge delta s = matchPattern (loseLock s) := by
  simp [acceptedEdge, hlock, htol]

theorem acceptedEdge_of_unlocked {delta : Nat} {s : State} (hlock : s.cnt.vlock = false) :
    acceptedEdge delta s = matchPattern s := by
  simp [acceptedEdge, hlock]

/-- The tolerance of R209 has both its ends. -/
theorem withinLineTol_iff (c : Cfg) (delta : Nat) :
    withinLineTol c delta = true ↔ delta ≤ c.lineIvl + c.lineTol ∧ c.lineIvl ≤ delta + c.lineTol := by
  simp [withinLineTol]

/-- Settles O35: the classification gives `u`, and then the lock and the tolerance choose. -/
theorem comparatorEdgeAccepted : Obligations.ComparatorEdgeAccepted := by
  rintro s u w _ _ found rfl rfl hen hmode hvalid hsettle hmin hu hw rfl
  have hclass : cmpEvent s = acceptedEdge (stampDelta s.cfg (now s) s.det.capLast) u := by
    rw [cmpEvent_of_accepted hen hmode hvalid hsettle hmin, classify_eq, hu, ← hvalid]
    rfl
  have hcfg : u.cfg = s.cfg := hu ▸ rfl
  have hcnt : u.cnt = s.cnt := hu ▸ rfl
  have hlost : loseLock u = w := by
    rw [loseLock_eq, hw, hu]
    rfl
  refine ⟨fun hlock hhigh hlow => ?line, fun hlock hout => ?lost, fun hlock => ?unlocked⟩
  case line =>
    exact congrArg Host.Outcome.next (hclass.trans (acceptedEdge_of_line (hcnt ▸ hlock)
      (by rw [hcfg]; exact (withinLineTol_iff _ _).2 ⟨hhigh, hlow⟩)))
  case lost =>
    have htol : withinLineTol u.cfg (stampDelta s.cfg (now s) s.det.capLast) = false := by
      rw [hcfg, ← Bool.not_eq_true, withinLineTol_iff]
      rintro ⟨hhigh, hlow⟩
      exact hout.elim (Nat.not_lt.2 hhigh) (Nat.not_lt.2 hlow)
    have heq := hclass.trans (acceptedEdge_of_lost (hcnt ▸ hlock) htol)
    rw [hlost] at heq
    exact (congrArg Host.Outcome.next heq).trans (next_matchPattern w)
  case unlocked =>
    exact (congrArg Host.Outcome.next (hclass.trans (acceptedEdge_of_unlocked (hcnt ▸ hlock)))).trans
      (next_matchPattern u)

/-! ### The gate of EN (R200) -/

/-- Settles O31: each event's gate, and the host events' own completion. -/
theorem enableGate : Obligations.EnableGate := by
  refine fun s => ⟨fun hdis i hi => ?_, fun a v => (hostEventsAreAccesses s a v).2.2⟩
  rcases hi with rfl | rfl | rfl | rfl | rfl
  · exact congrArg Host.Outcome.next (csyncEvent_of_gated (.inl hdis))
  · exact congrArg Host.Outcome.next (vsyncEvent_of_gated (.inl hdis))
  · exact congrArg Host.Outcome.next (cmpEvent_of_gated (.inl hdis))
  · exact congrArg Host.Outcome.next (refTickEvent_of_disabled hdis)
  · exact congrArg Host.Outcome.next (genLineEvent_of_gated (.inl hdis))

/-! ### The one writer of VSTAT.STD (R215) -/

/-- What a genuine vertical sync event leaves: the lock, external sync, and the first line of a field (R214). -/
structure GenuineMarks (t : State) : Prop where
  locked : t.cnt.vlock = true
  external : t.vstat.srcExt = true
  firstLine : t.cnt.line = 0

theorem verticalSync_genuine_marks (x : Bool) (s : State) : GenuineMarks (verticalSync .genuine x s) := by
  rw [verticalSync_genuine_eq]
  exact ⟨rfl, rfl, rfl⟩

/-- From `s` to `t` STD stays, or a genuine vertical sync event has written it. -/
def StdKept (s t : State) : Prop := t.vstat.std = s.vstat.std ∨ GenuineMarks t

theorem vsyncEvent_stdKept (s : State) : StdKept s (vsyncEvent s) := by
  unfold vsyncEvent
  split
  · exact .inr (verticalSync_genuine_marks _ s)
  · exact .inl rfl

theorem matchPattern_stdKept (s : State) : StdKept s (matchPattern s) := by
  unfold matchPattern
  dsimp only
  split
  · exact .inr (verticalSync_genuine_marks _ _)
  · split
    · exact .inr (verticalSync_genuine_marks _ _)
    · exact .inl rfl

theorem acceptedEdge_stdKept (delta : Nat) (s : State) : StdKept s (acceptedEdge delta s) := by
  unfold acceptedEdge
  split
  · split
    · exact .inl (by simp)
    · simpa [StdKept] using matchPattern_stdKept (loseLock s)
  · exact matchPattern_stdKept s

theorem cmpEvent_stdKept (s : State) : StdKept s (cmpEvent s) := by
  unfold cmpEvent
  dsimp only
  split
  · split
    · split
      · exact .inl rfl
      · split
        · exact .inl rfl
        · simpa [StdKept] using acceptedEdge_stdKept (stampDelta s.cfg (now s) s.det.capLast)
            (classify (stampDelta s.cfg (now s) s.det.capLast)
              { s with det := { s.det with capLast := now s, capValid := true } })
    · exact .inl rfl
  · exact .inl rfl

@[simp] theorem firstGenLine_vstat (s : State) : (firstGenLine s).vstat = s.vstat := by simp [firstGenLine]

@[simp] theorem restartGenerator_vstat (s : State) : (restartGenerator s).vstat = s.vstat := by
  simp [restartGenerator]

/-- The switch to internal sync keeps the last detected standard (R211). -/
@[simp] theorem timeoutSwitch_vstat (s : State) : (timeoutSwitch s).vstat = { s.vstat with srcExt := false } := by
  simp [timeoutSwitch]

theorem refTickEvent_std (s : State) : (refTickEvent s).vstat.std = s.vstat.std := by
  unfold refTickEvent
  dsimp only
  split
  · split
    · simp
    · rfl
  · rfl

@[simp] theorem genLineEvent_vstat (s : State) : (genLineEvent s).vstat = s.vstat := by
  by_cases hrun : s.ctrl.enable = true ∧ s.gen.running = true
  · rw [genLineEvent_of_running hrun.1 hrun.2]
    simp [atGenLine]
  · rw [genLineEvent_of_gated (by simpa [Classical.or_iff_not_imp_left] using hrun)]

@[simp] theorem enableEffects_vstat (s : State) : (enableEffects s).vstat = s.vstat := by
  unfold enableEffects
  dsimp only
  split
  · rfl
  · simp

@[simp] theorem writeCtrl_vstat (v : Word) (s : State) : (writeCtrl v s).vstat = s.vstat := by
  have hchange : ∀ (old : Ctrl) (t : State), (enableChange old t).vstat = t.vstat := by
    intro old t
    unfold enableChange
    split
    · rfl
    · split <;> simp
  unfold writeCtrl
  rw [hchange]
  split <;> rfl

@[simp] theorem unlessXfer_vstat (a : Arbiter) (s : State) : (unlessXfer a s).vstat = s.vstat := by
  unfold unlessXfer
  split <;> rfl

/-- No register write reaches STD: VSTAT's own writes take the host's fields only (R501 to R503). -/
theorem writeReg_std (r : Reg) (v : Word) (s : State) : (writeReg r v s).vstat.std = s.vstat.std := by
  cases r with
  | ctrl => simp [writeReg]
  | fmAddrLo | fmAddrHi | fmLen | fmWdata | fmBufptr => exact congrArg Vstat.std (unlessXfer_vstat _ s)
  | fmCmd => exact congrArg Vstat.std (fmCommand_vstat _ s)
  | _ => rfl

/-- Whatever an operation has run, STD stays but for a reset and a genuine vertical sync event. -/
theorem Ran.stdKept {i : Instr} {s t : State} (h : Ran s i t) : t.vstat.std = s.vstat.std ∨ i = .evReset ∨
    ((i = .evVsync ∨ i = .evCmp ∨ ∃ x, i = .vsyncEvent .genuine x) ∧ GenuineMarks t) := by
  cases h with
  | read | command | qwrite | qread | dread | rstio | edio | eqio | csync | genLine | hostRead | xferDone | pixStart
  | streamEnd | line | timeout | zone => exact .inl (by simp)
  | write r v => exact .inl (writeReg_std r v s)
  | reserved write a => exact .inl (reservedAccess_rule (P := fun u => u.vstat.std = s.vstat.std) write a rfl rfl)
  | vsync hi => exact (vsyncEvent_stdKept s).imp_right fun hmarks => .inr ⟨.inl hi, hmarks⟩
  | cmp hi => exact (cmpEvent_stdKept s).imp_right fun hmarks => .inr ⟨.inr (.inl hi), hmarks⟩
  | refTick => exact .inl (refTickEvent_std s)
  | reset hi => exact .inr (.inl hi)
  | hostWrite a v =>
    exact .inl (hostWrite_rule (P := fun u => u.vstat.std = s.vstat.std) a rfl fun r => writeReg_std r v s)
  | verticalSync kind x hi =>
    cases kind with
    | genuine => exact .inr (.inr ⟨.inr (.inr ⟨x, hi⟩), verticalSync_genuine_marks x s⟩)
    | internal => exact .inl (by simp)
  | idle => exact .inl rfl

/-- Settles O58: only a reset and a genuine vertical sync event are among the operations that do not keep STD. -/
theorem standardHasOneWriter : Obligations.StandardHasOneWriter := by
  intro i s t hexec hchange
  refine ((ran_of_exec hexec).stdKept.resolve_left hchange).imp_right ?_
  rintro ⟨hi, hmarks⟩
  exact ⟨hi, hmarks.locked, hmarks.external, hmarks.firstLine⟩

end Sys2Proof.Machine
end

section
/-! PROOFS. The line output (spec/42_line_output.md): the output resolution, what the step of each zone does, the rows
of a whole field, and the interrupts that report the edges of BUSY. -/

namespace Sys2Proof.Machine

/-! ### The output resolution (R314, R519) -/

/-- The profile of a statement's words is the one in use. -/
theorem eq_activeProfile {s : State} {p : Profile} (h : p = if s.ctrl.profSel then s.prof1 else s.prof0) :
    p = activeProfile s := h

/-- Settles O8: the width's entry, if there is one, and the height. -/
theorem outputResolution : Obligations.OutputResolution := by
  intro s v p hp
  obtain rfl := eq_activeProfile hp
  refine ⟨exec_readOf_of_regWord (r := .outResW) nofun ?width, exec_readOf_of_regWord (r := .outResH) nofun rfl,
    rfl, rfl⟩
  simp only [regWord, outResW, xsizeEntry]
  cases s.cfg.xsizes[(activeProfile s).hsizeSel.toNat]? <;> rfl

/-! ### The step before its zone (R300, R313) -/

/-- With no row on the wires the zone's rule runs at once. -/
theorem exec_zoneRow_of_idle {s : State} (hout : s.ctrl.outEn = true) (hidle : s.loe.streaming = false) (z : Zone) :
    exec (zoneRow z) s = .next (zoneStep z s) := by
  simp [exec_zoneRow, loeStepIn, hout, hidle]

theorem exec_zoneRow_of_frozen {s : State} (hout : s.ctrl.outEn = false) (z : Zone) : exec (zoneRow z) s = .next s := by
  simp [exec_zoneRow, loeStepIn, hout]

/-- Settles O41: the seven rows of ZONE are the five zones' and the two reserved ones. -/
theorem outputFrozen : Obligations.OutputFrozen := by
  refine fun s b => ⟨fun hout i hi => ?frozen, fun hout hidle => exec_zoneRow_of_idle hout hidle .teardown⟩
  have hreserved : ∀ z, reservedZone z s = .next s := fun z => by simp [reservedZone, hout]
  rcases hi with rfl | rfl | rfl | rfl | rfl | rfl | rfl
  · exact exec_zoneRow_of_frozen hout .preroll
  · exact exec_zoneRow_of_frozen hout .setup
  · exact exec_zoneRow_of_frozen hout .modeswitch
  · exact exec_zoneRow_of_frozen hout .active
  · exact exec_zoneRow_of_frozen hout .teardown
  · exact hreserved _
  · exact hreserved _

/-- Settles O42: the number that the row of 6 and 7 stops with is its own. -/
theorem reservedZonesStop : Obligations.ReservedZonesStop := by
  intro s b hout
  have hstop : ∀ z, reservedZone z s = .fault (.zoneNeverProduced z) := fun z => by simp [reservedZone, hout]
  have hcode : ∀ b : BitVec 1, 3#2 ++ b = BitVec.ofNat 3 (6 + b.toNat) := by decide
  exact ⟨hstop 5, (hstop (3#2 ++ b)).trans (by rw [hcode])⟩

/-- A cut row leaves no frame on the wires (R313). -/
theorem currentWire_cutStream (overrun : Bool) (s : State) : currentWire (cutStream overrun s) = none := by
  rw [cutStream_eq]
  exact currentWire_releaseWires s

theorem pinFmCsN_of_no_wire {s : State} (h : currentWire s = none) : pinFmCsN s = true := by simp [pinFmCsN, h]

/-- A line-output step with a row on the wires is the step after the cut (R300). -/
theorem exec_zoneRow_of_streaming {s : State} (hout : s.ctrl.outEn = true) (hstream : s.loe.streaming = true)
    (z : Zone) : exec (zoneRow z) s = exec (zoneRow z) (cutStream true s) := by
  simp [exec_zoneRow, loeStepIn, hout, hstream]

/-- Settles O43: the state after the cut is `cutStream true s`. -/
theorem overrunCutsRow : Obligations.OverrunCutsRow := fun s z hout hstream =>
  ⟨cutStream true s, _, cutStream_eq true s, pinFmCsN_of_no_wire (currentWire_cutStream true s),
    exec_zoneRow_of_streaming hout hstream z, exec_zoneRow z s⟩

/-! ### The setup (R301, R302) -/

/-- R11: a row of the width table has at most 2^16 − 1 bytes, so RW's 16 bits hold it. -/
theorem rowBytes_lt {c : Cfg} {sel : Nat} {e : Nat × Nat} (h : c.xsizes[sel]? = some e) : e.1 / 4 < 2 ^ 16 := by
  have hok := c.ok
  simp only [Params.ok, OpenParams.ok, Bool.and_eq_true, List.all_eq_true] at hok
  obtain ⟨⟨⟨⟨_, hwidths⟩, _⟩, _⟩, _⟩ := hok
  have he := hwidths e (List.mem_of_getElem? h)
  simp only [xsizeOk, Bool.and_eq_true, decide_eq_true_eq] at he
  omega

theorem setupReady_iff (s : State) :
    setupReady s = true ↔
      3 ≤ (activeProfile s).top.toNat ∧ s.cnt.line.toNat + 2 = (activeProfile s).top.toNat ∧ s.arb.ready = true ∧
        (activeProfile s).hsizeSel.toNat < s.cfg.xsizes.length := by
  simp only [setupReady, Bool.and_eq_true, decide_eq_true_eq, and_assoc]
  exact and_congr_right fun htop => and_congr_left' (by omega)

/-- What the setup computes for a width of the table (R302). -/
theorem setupLoe_eq {s : State} {e : Nat × Nat} (he : s.cfg.xsizes[(activeProfile s).hsizeSel.toNat]? = some e) :
    setupLoe s = { s.loe with
      wSel := (activeProfile s).hsizeSel, wBot := (activeProfile s).bot, wHoff := (activeProfile s).hoff,
      wScan := (activeProfile s).scan,
      lastLine := BitVec.ofNat 16 (min (lineLimit s) s.cnt.lastCount.toNat),
      rw := BitVec.ofNat 16 (e.1 / 4), pixDiv := e.2,
      stride := BitVec.ofNat 17 (if (activeProfile s).scan then 2 * (e.1 / 4) else e.1 / 4),
      addr := BitVec.ofNat 24 (if (activeProfile s).scan = true ∧ s.cnt.parity = false then e.1 / 4 else 0),
      busy := true, zone := .setup } := by
  have hrow : rowBytes s = BitVec.ofNat 16 (e.1 / 4) := by simp [rowBytes, xsizeOf, List.getD_eq_getElem?_getD, he]
  have hdiv : pixDivOf s.cfg (activeProfile s).hsizeSel = e.2 := by
    simp [pixDivOf, List.getD_eq_getElem?_getD, he]
  have hnat : (BitVec.ofNat 16 (e.1 / 4)).toNat = e.1 / 4 := by
    rw [BitVec.toNat_ofNat, Nat.mod_eq_of_lt (rowBytes_lt he)]
  have hwide : ∀ w, (BitVec.ofNat 16 (e.1 / 4)).setWidth w = BitVec.ofNat w (e.1 / 4) := fun w =>
    BitVec.eq_of_toNat_eq (by rw [BitVec.toNat_setWidth, hnat, BitVec.toNat_ofNat])
  unfold setupLoe
  rw [hrow, hdiv, hnat, hwide, hwide]
  cases (activeProfile s).scan <;> cases s.cnt.parity <;> rfl

/-- Setup raises BUS_CLAIM, and CLAMP where the last field's count limits the field (R302). -/
theorem setupZone_eq (s : State) :
    setupZone s = { s with
      loe := setupLoe s
      irq := irqAfter (if s.cnt.lastCount.toNat < lineLimit s then 0x048 else 0x008) s } := by
  unfold setupZone
  split
  · simp [raiseInt_eq, irqAfter, BitVec.or_assoc]
  · simp [raiseInt_eq, irqAfter]

/-- Settles O44: the condition of R301, then the fields and the interrupts of R302. -/
theorem prerollAndSetup : Obligations.PrerollAndSetup := by
  intro s p lim hp hlim hout hidle
  obtain rfl := eq_activeProfile hp
  obtain rfl : lim = lineLimit s := hlim
  rw [show exec .zonePreroll s = .next (prerollStep s) from exec_zoneRow_of_idle hout hidle .preroll]
  refine ⟨fun e htop hline hready he => ?setup, fun hnot => ?other⟩
  case setup =>
    have hsel := (List.getElem?_eq_some_iff.1 he).1
    rw [prerollStep, if_pos ((setupReady_iff s).2 ⟨htop, hline, hready, hsel⟩), setupZone_eq, setupLoe_eq he]
  case other => rw [prerollStep, if_neg fun h => hnot ((setupReady_iff s).1 h)]

/-! ### The mode switch and the teardown (R303, R305) -/

/-- A teardown without a mode switch ends the field with no activity on the wires (R305). -/
theorem teardown_false_eq (s : State) :
    teardown false s = { s with loe := { s.loe with busy := false, zone := .teardown }, irq := irqAfter 0x010 s } := by
  simp [teardown, raiseInt_eq, irqAfter]

/-- A teardown from dual mode also sends the frames of R412. -/
theorem teardown_true_eq (s : State) :
    teardown true s = { s with
      loe := { s.loe with busy := false, zone := .teardown },
      arb := { s.arb with mode := .quad },
      dev := { s.dev with mode := .quad },
      irq := irqAfter 0x010 s,
      trace := { s.trace with frames := switchFrames s .rstioD 4 .eqioS ++ s.trace.frames } } := by
  simp [teardown, raiseInt_eq, irqAfter, dualToQuad_eq]

theorem hstartFor_of_lt {first : Bool} {s : State} {h : Nat}
    (heq : h = s.loe.wHoff.toNat + s.cfg.comp first s.cnt.vlock s.vstat.srcExt) (hlt : h < 2 ^ 17) :
    hstartFor first s = BitVec.ofNat 17 h := by
  subst heq
  exact if_pos hlt

theorem hstartFor_of_le {first : Bool} {s : State} {h : Nat}
    (heq : h = s.loe.wHoff.toNat + s.cfg.comp first s.cnt.vlock s.vstat.srcExt) (hle : 2 ^ 17 ≤ h) :
    hstartFor first s = Config.hstartOver h := by
  subst heq
  exact if_neg (Nat.not_lt.2 hle)

theorem switchStep_of_past {s : State} (h : s.loe.lastLine.toNat ≤ s.cnt.line.toNat) :
    switchStep s = teardown false s := by
  simp [switchStep, h]

theorem switchStep_of_xfer {s : State} (h : s.cnt.line.toNat < s.loe.lastLine.toNat) (hxfer : s.arb.xfer = true) :
    switchStep s = s := by
  simp [switchStep, Nat.not_le.2 h, hxfer]

/-- Before LAST_LINE and with no transaction the device is switched to dual mode (R303, R411). -/
theorem switchStep_of_free {s : State} (h : s.cnt.line.toNat < s.loe.lastLine.toNat) (hxfer : s.arb.xfer = false) :
    switchStep s = switched s (hstartFor true s) := by
  simp [switchStep, Nat.not_le.2 h, hxfer, quadToDual_eq, switched]

/-- Settles O45: the three cases of R303. -/
theorem modeSwitchStep : Obligations.ModeSwitchStep := by
  intro s hout hidle
  rw [show exec .zoneSetup s = .next (switchStep s) from exec_zoneRow_of_idle hout hidle .setup]
  refine ⟨fun hpast => ?ends, fun hline hxfer => ?holds, fun h c d m hline hxfer hh hlt hc hd hm => ?switches⟩
  case ends => rw [switchStep_of_past hpast, teardown_false_eq]
  case holds => rw [switchStep_of_xfer hline hxfer]
  case switches =>
    subst hc hd hm
    rw [switchStep_of_free hline hxfer, hstartFor_of_lt hh hlt]
    rfl

/-! ### The active lines (R304, R312, R313) -/

theorem exec_activeStep {s : State} {i : Instr} (hi : i = .zoneModeswitch ∨ i = .zoneActive)
    (hout : s.ctrl.outEn = true) (hidle : s.loe.streaming = false) : exec i s = .next (activeStep s) := by
  rcases hi with rfl | rfl
  · exact exec_zoneRow_of_idle hout hidle .modeswitch
  · exact exec_zoneRow_of_idle hout hidle .active

theorem activeStep_of_past {s : State} (h : s.loe.lastLine.toNat ≤ s.cnt.line.toNat) :
    activeStep s = teardown true s := by
  simp [activeStep, h]

/-- Settles O48. -/
theorem activeTeardown : Obligations.ActiveTeardown := by
  rintro s i _ _ _ hi hout hidle hpast rfl rfl rfl
  rw [exec_activeStep hi hout hidle, activeStep_of_past hpast, teardown_true_eq]
  rfl

/-- The four pixels of a byte are its bit pairs, the most significant first (R140). -/
theorem unpackByte_eq (b : Byte) :
    unpackByte b = [BitVec.ofNat 2 (b.toNat / 64), BitVec.ofNat 2 (b.toNat / 16 % 4), BitVec.ofNat 2 (b.toNat / 4 % 4),
      BitVec.ofNat 2 (b.toNat % 4)] := by
  revert b
  decide

/-- Where every part of a `flatMap` has `n` elements, element `j` of part `k` stands at `n * k + j`. -/
theorem getElem?_flatMap_const {α β : Type} {f : α → List β} {n : Nat} (hf : ∀ a, (f a).length = n) {j : Nat}
    (hj : j < n) (l : List α) (k : Nat) : (l.flatMap f)[n * k + j]? = l[k]?.bind fun a => (f a)[j]? := by
  induction l generalizing k with
  | nil => simp
  | cons a rest ih =>
    rw [List.flatMap_cons]
    cases k with
    | zero => rw [List.getElem?_append_left (by rw [hf]; omega)]; simp
    | succ k =>
      rw [List.getElem?_append_right (by rw [hf, Nat.mul_succ]; omega), hf, List.getElem?_cons_succ, ← ih]
      congr 1
      rw [Nat.mul_succ]
      omega

theorem unpack_length (bytes : List Byte) : (unpack bytes).length = 4 * bytes.length := by
  simp [unpack, List.length_flatMap, unpackByte, Nat.mul_comm]

/-- Each byte of the row gives its four pixels in their order (R140). -/
theorem unpack_getElem? {bytes : List Byte} {k : Nat} {b : Byte} (hb : bytes[k]? = some b) :
    (unpack bytes)[4 * k]? = some (BitVec.ofNat 2 (b.toNat / 64)) ∧
    (unpack bytes)[4 * k + 1]? = some (BitVec.ofNat 2 (b.toNat / 16 % 4)) ∧
    (unpack bytes)[4 * k + 2]? = some (BitVec.ofNat 2 (b.toNat / 4 % 4)) ∧
    (unpack bytes)[4 * k + 3]? = some (BitVec.ofNat 2 (b.toNat % 4)) := by
  have hpart : ∀ j < 4, (unpack bytes)[4 * k + j]? = (unpackByte b)[j]? := fun j hj => by
    rw [unpack, getElem?_flatMap_const (f := unpackByte) (n := 4) (fun _ => rfl) hj, hb]
    rfl
  rw [unpackByte_eq] at hpart
  exact ⟨hpart 0 (by decide), hpart 1 (by decide), hpart 2 (by decide), hpart 3 (by decide)⟩

theorem bytesIn_length (s : State) (start m : DevMode) (k a n : Nat) : (bytesIn s start m k a n).length = n := by
  simp [bytesIn]

/-- What the row's DREAD leaves of the device: the bytes have come in, and a device in another mode is all draws
(R312, R413). -/
theorem devRead_dual_eq (s : State) (a : FmAddr) (n : Nat) :
    devRead s.dev.mode .dual s.sched.draws a n (nextDraw s) = { s with
      dev := { s.dev with
        mem := if s.dev.mode = .dual then s.dev.mem else [],
        mode := if s.dev.mode = .dual then .dual else Config.drawMode (s.sched.draws + 1),
        out := bytesIn s s.dev.mode .dual s.sched.draws a.toNat n },
      sched := { s.sched with draws := s.sched.draws + (if s.dev.mode = .dual then 1 else 2) } } := by
  have hin : bytesIn (nextDraw s) s.dev.mode .dual s.sched.draws a.toNat n =
    bytesIn s s.dev.mode .dual s.sched.draws a.toNat n := rfl
  unfold devRead
  rw [devReadBytes_eq, hin]
  by_cases hmode : s.dev.mode = .dual
  · simp only [if_pos hmode]
    rw [← hmode]
    rfl
  · simp only [if_neg hmode]
    rfl

theorem activeStep_of_before {s : State} (h : s.cnt.line.toNat < s.loe.lastLine.toNat) :
    activeStep s = { emitRow s with
      loe := { (emitRow s).loe with
        addr := s.loe.addr + s.loe.stride.setWidth 24, first := false, hstart := hstartFor false s,
        zone := .active } } := by
  simp [activeStep, Nat.not_le.2 h]

/-- ADDR advances by STRIDE modulo 2^24 (R304). -/
theorem addr_add_stride (addr : FmAddr) (stride : BitVec 17) :
    addr + stride.setWidth 24 = BitVec.ofNat 24 (addr.toNat + stride.toNat) :=
  BitVec.eq_of_toNat_eq (by simp)

/-- Everything an active line does before LAST_LINE (R304, R312, R313). -/
theorem activeStep_rowSent {s : State} (h : s.cnt.line.toNat < s.loe.lastLine.toNat) :
    RowSent s (hstartFor false s) (activeStep s) := by
  refine ⟨⟨s.cnt.line, s.cnt.parity, s.loe.addr,
    unpack (bytesIn s s.dev.mode .dual s.sched.draws s.loe.addr.toNat s.loe.rw.toNat), 0⟩,
    _, _, _, rfl, rfl, rfl, rfl, rfl, rfl, rfl, ?_, fun k b hb => unpack_getElem? hb, ?_⟩
  · rw [unpack_length, bytesIn_length]
  · rw [activeStep_of_before h, addr_add_stride, emitRow, devRead_dual_eq]
    rfl

theorem RowSent.dev_eq {s t : State} {hstart : BitVec 17} (h : RowSent s hstart t) :
    t.dev = { s.dev with
      mem := if s.dev.mode = .dual then s.dev.mem else [],
      mode := if s.dev.mode = .dual then .dual else Config.drawMode (s.sched.draws + 1),
      out := bytesIn s s.dev.mode .dual s.sched.draws s.loe.addr.toNat s.loe.rw.toNat } := by
  obtain ⟨row, bytes, pix, stop, rfl, _, _, _, _, _, _, _, _, rfl⟩ := h
  rfl

/-- Settles O47: the row that is sent, and what that says of the memory and of the bytes. -/
theorem activeRow : Obligations.ActiveRow := by
  intro s i h hi hout hidle hline hh hlt
  have hrow := hstartFor_of_lt hh hlt ▸ activeStep_rowSent hline
  refine ⟨activeStep s, exec_activeStep hi hout hidle, hrow, fun hdual a => ?kept, fun hdual hdev k hk => ?bytes,
    fun hother a => ?lost⟩
  case kept => rw [hrow.dev_eq, if_pos hdual]
  case bytes =>
    simp only [hrow.dev_eq, bytesIn, hdev, hdual, if_true, List.getElem?_map, List.getElem?_range hk]
    rfl
  case lost => rw [hrow.dev_eq, if_neg hother, memRead_nil]

/-- Settles O46: only HSTART tells a sum that 17 bits cannot hold. -/
theorem hstartOverflowIsFree : Obligations.HstartOverflowIsFree := by
  refine fun s h hout hidle hline hle => ⟨fun hxfer hh => ?_, fun hh i hi => ?_⟩
  · rw [← hstartFor_of_le hh hle, ← switchStep_of_free hline hxfer]
    exact exec_zoneRow_of_idle hout hidle .setup
  · exact ⟨activeStep s, exec_activeStep hi hout hidle, hstartFor_of_le hh hle ▸ activeStep_rowSent hline⟩

/-! ### A whole field (R308 to R310) -/

/-- `s` as the rule of its zone finds it at a line event with OUT_EN = 1: the line is counted, and a row that is still
on the wires has been cut (R204, R300). -/
def lineStart (s : State) : State :=
  if s.loe.streaming then cutStream true { s with cnt := { s.cnt with line := s.cnt.line + 1 } }
  else { s with cnt := { s.cnt with line := s.cnt.line + 1 } }

theorem lineEvent_of_outEn {s : State} (hout : s.ctrl.outEn = true) :
    lineEvent s = zoneStep s.loe.zone (lineStart s) := by
  simp [lineEvent, loeStep, loeStepIn, hout, lineStart]

theorem lineEvent_of_activeZone {s : State} (hout : s.ctrl.outEn = true)
    (hzone : s.loe.zone = .modeswitch ∨ s.loe.zone = .active) : lineEvent s = activeStep (lineStart s) := by
  rw [lineEvent_of_outEn hout]
  rcases hzone with hzone | hzone
  · rw [hzone, zoneStep]
  · rw [hzone, zoneStep]

/-- A part of the state that neither the count nor a cut writes is the same at the start of the line. -/
theorem lineStart_frame {α : Type} {f : State → α} {s : State}
    (hcut : ∀ t, f (cutStream true t) = f t)
    (hcount : f { s with cnt := { s.cnt with line := s.cnt.line + 1 } } = f s) : f (lineStart s) = f s := by
  unfold lineStart
  split
  · rw [hcut, hcount]
  · exact hcount

@[simp] theorem lineStart_cfg (s : State) : (lineStart s).cfg = s.cfg := lineStart_frame (f := State.cfg) (by simp) rfl

@[simp] theorem lineStart_ctrl (s : State) : (lineStart s).ctrl = s.ctrl :=
  lineStart_frame (f := State.ctrl) (by simp) rfl

@[simp] theorem lineStart_vstat (s : State) : (lineStart s).vstat = s.vstat :=
  lineStart_frame (f := State.vstat) (by simp) rfl

@[simp] theorem lineStart_arb (s : State) : (lineStart s).arb = s.arb := lineStart_frame (f := State.arb) (by simp) rfl

@[simp] theorem lineStart_activeProfile (s : State) : activeProfile (lineStart s) = activeProfile s :=
  lineStart_frame (f := activeProfile) (by simp [activeProfile, profile]) rfl

@[simp] theorem lineStart_rowAddrs (s : State) :
    (lineStart s).trace.rows.map Row.addr = s.trace.rows.map Row.addr :=
  lineStart_frame (f := fun t => t.trace.rows.map Row.addr)
    (fun t => by rw [cutStream_eq, ← markStreamed_cut, markStreamed_addr]) rfl

@[simp] theorem lineStart_loe (s : State) : (lineStart s).loe = { s.loe with streaming := false } := by
  unfold lineStart
  split
  · simp
  · rw [← eq_false_of_ne_true ‹_›]

@[simp] theorem lineStart_cnt (s : State) : (lineStart s).cnt = { s.cnt with line := s.cnt.line + 1 } := by
  unfold lineStart
  split <;> simp

/-- The addresses of the first `n` rows of a field, newest first: row `k` is at `a0 + k * step` modulo 2^24 (R310). -/
def sentAddrs (a0 step : Nat) : Nat → List FmAddr
  | 0 => []
  | n + 1 => BitVec.ofNat 24 (a0 + n * step) :: sentAddrs a0 step n

@[simp] theorem sentAddrs_length (a0 step n : Nat) : (sentAddrs a0 step n).length = n := by
  induction n with
  | zero => rfl
  | succ n ih => rw [sentAddrs, List.length_cons, ih]

theorem sentAddrs_getElem? {a0 step n k : Nat} (hk : k < n) :
    (sentAddrs a0 step n)[n - 1 - k]? = some (BitVec.ofNat 24 (a0 + k * step)) := by
  induction n with
  | zero => exact absurd hk (Nat.not_lt_zero k)
  | succ n ih =>
    rw [sentAddrs]
    rcases Nat.lt_succ_iff_lt_or_eq.1 hk with hlt | rfl
    · rw [show n + 1 - 1 - k = n - 1 - k + 1 by omega, List.getElem?_cons_succ]
      exact ih hlt
    · rw [show k + 1 - 1 - k = 0 by omega, List.getElem?_cons_zero]

/-- `s` is at line `line` of a field with LAST_LINE `last`, whose output has sent `n` rows from address `a0` on, `step`
apart, after the rows of the addresses `old`. -/
structure InField (old : List FmAddr) (a0 step last line n : Nat) (s : State) : Prop where
  outEn : s.ctrl.outEn = true
  atLine : s.cnt.line.toNat = line
  lastLine : s.loe.lastLine.toNat = last
  nextAddr : s.loe.addr = BitVec.ofNat 24 (a0 + n * step)
  stride : s.loe.stride.toNat = step
  rows : s.trace.rows.map Row.addr = sentAddrs a0 step n ++ old

/-- `s` has ended its field after `n` rows (R309). -/
structure FieldEnded (old : List FmAddr) (a0 step n : Nat) (s : State) : Prop where
  zone : s.loe.zone = .teardown
  idle : s.loe.busy = false
  rows : s.trace.rows.map Row.addr = sentAddrs a0 step n ++ old

/-- LINE does not wrap below LAST_LINE. -/
theorem toNat_succ_of_lt {line : BitVec 16} {n : Nat} (h : line.toNat < n) (hn : n < 2 ^ 16) :
    (line + 1).toNat = line.toNat + 1 := by
  rw [BitVec.toNat_add]
  exact Nat.mod_eq_of_lt (by simp; omega)

@[simp] theorem teardown_rows (switched : Bool) (s : State) : (teardown switched s).trace.rows = s.trace.rows := by
  cases switched <;> simp [teardown_false_eq, teardown_true_eq]

section
variable {old : List FmAddr} {a0 step last line n : Nat} {s : State}

/-- The start of the next line, as far as LAST_LINE. -/
theorem InField.lineStart (h : InField old a0 step last line n s) (hline : line < 2 ^ 16 - 1) :
    InField old a0 step last (line + 1) n (lineStart s) where
  outEn := by simpa using h.outEn
  atLine := by
    rw [lineStart_cnt, ← h.atLine]
    exact toNat_succ_of_lt (h.atLine.trans_lt hline) (by decide)
  lastLine := by simpa using h.lastLine
  nextAddr := by simpa using h.nextAddr
  stride := by simpa using h.stride
  rows := by rw [lineStart_rowAddrs, h.rows]

theorem InField.teardown (h : InField old a0 step last line n s) (switched : Bool) :
    FieldEnded old a0 step n (teardown switched s) where
  zone := by simp
  idle := by simp
  rows := by rw [teardown_rows, h.rows]

/-- A row that is sent is the field's next (R304, R310). -/
theorem InField.rowSent (h : InField old a0 step last line n s) (hbefore : line < last) :
    InField old a0 step last line (n + 1) (activeStep s) ∧ (activeStep s).loe.zone = .active := by
  have hsent : s.cnt.line.toNat < s.loe.lastLine.toNat := by rw [h.atLine, h.lastLine]; exact hbefore
  obtain ⟨row, bytes, pix, stop, _, _, _, _, _, haddr, _, _, _, heq⟩ := activeStep_rowSent hsent
  rw [heq]
  refine ⟨⟨h.outEn, h.atLine, h.lastLine, ?_, h.stride, ?_⟩, rfl⟩
  · apply BitVec.eq_of_toNat_eq
    simp only [h.nextAddr, h.stride, BitVec.toNat_ofNat, Nat.succ_mul, Nat.add_assoc, Nat.mod_add_mod]
  · rw [List.map_cons, haddr, h.nextAddr, h.rows, sentAddrs, List.cons_append]

/-- A line event of the active zones before LAST_LINE sends a row (R304). -/
theorem InField.activeLine (h : InField old a0 step last line n s)
    (hzone : s.loe.zone = .modeswitch ∨ s.loe.zone = .active) (hbefore : line + 1 < last) (hlast : last < 2 ^ 16) :
    InField old a0 step last (line + 1) (n + 1) (lineEvent s) ∧ (lineEvent s).loe.zone = .active := by
  rw [lineEvent_of_activeZone h.outEn hzone]
  exact (h.lineStart (by omega)).rowSent hbefore

/-- The line event of LAST_LINE ends the field (R305). -/
theorem InField.lastActiveLine (h : InField old a0 step last line n s)
    (hzone : s.loe.zone = .modeswitch ∨ s.loe.zone = .active) (hend : line + 1 = last) (hlast : last < 2 ^ 16) :
    FieldEnded old a0 step n (lineEvent s) := by
  have hstart := h.lineStart (by omega)
  rw [lineEvent_of_activeZone h.outEn hzone, activeStep_of_past (by rw [hstart.atLine, hstart.lastLine, hend])]
  exact hstart.teardown true

/-- The line event of the mode switch, before LAST_LINE and with no transaction (R303). -/
theorem InField.switchLine (h : InField old a0 step last line n s) (hzone : s.loe.zone = .setup)
    (hxfer : s.arb.xfer = false) (hbefore : line + 1 < last) (hlast : last < 2 ^ 16) :
    InField old a0 step last (line + 1) n (lineEvent s) ∧ (lineEvent s).loe.zone = .modeswitch := by
  have hstart := h.lineStart (by omega)
  rw [lineEvent_of_outEn h.outEn, hzone, zoneStep,
    switchStep_of_free (by rw [hstart.atLine, hstart.lastLine]; exact hbefore) (by rw [lineStart_arb, hxfer])]
  exact ⟨⟨hstart.outEn, hstart.atLine, hstart.lastLine, hstart.nextAddr, hstart.stride, hstart.rows⟩, rfl⟩

/-- A field whose LAST_LINE is not past the line of its mode switch ends there (R303, R309). -/
theorem InField.lastSwitchLine (h : InField old a0 step last line n s) (hzone : s.loe.zone = .setup)
    (hpast : last ≤ line + 1) (hline : line < 2 ^ 16 - 1) : FieldEnded old a0 step n (lineEvent s) := by
  have hstart := h.lineStart hline
  rw [lineEvent_of_outEn h.outEn, hzone, zoneStep,
    switchStep_of_past (by rw [hstart.atLine, hstart.lastLine]; exact hpast)]
  exact hstart.teardown false

end

/-- The line event of the setup (R301, R302). -/
theorem inField_of_setupLine {s : State} {e : Nat × Nat} (hout : s.ctrl.outEn = true) (hzone : s.loe.zone = .preroll)
    (hready : s.arb.ready = true) (he : s.cfg.xsizes[(activeProfile s).hsizeSel.toNat]? = some e)
    (hline : s.cnt.line.toNat + 3 = (activeProfile s).top.toNat) :
    InField (s.trace.rows.map Row.addr)
      (if (activeProfile s).scan = true ∧ s.cnt.parity = false then e.1 / 4 else 0)
      (if (activeProfile s).scan then 2 * (e.1 / 4) else e.1 / 4)
      (min (lineLimit s) s.cnt.lastCount.toNat) (s.cnt.line.toNat + 1) 0 (lineEvent s) ∧
    (lineEvent s).loe.zone = .setup := by
  have htop := (activeProfile s).top.isLt
  have hrow := rowBytes_lt he
  have hcount : (s.cnt.line + 1).toNat = s.cnt.line.toNat + 1 := toNat_succ_of_lt (Nat.lt_succ_self _) (by omega)
  have hsel := (List.getElem?_eq_some_iff.1 he).1
  have hsetup : setupReady (lineStart s) = true := by
    rw [setupReady_iff, lineStart_activeProfile, lineStart_cfg, lineStart_arb, lineStart_cnt, hcount]
    exact ⟨by omega, by omega, hready, hsel⟩
  have hloe := setupLoe_eq (s := lineStart s) (e := e) (by simpa using he)
  have hlimit : lineLimit (lineStart s) = lineLimit s := by simp [lineLimit, totalLines]
  rw [lineEvent_of_outEn hout, hzone, zoneStep, prerollStep, if_pos hsetup]
  refine ⟨⟨by simpa using hout, by simpa using hcount, ?_, ?_, ?_, by simp [sentAddrs]⟩, by simp [hloe]⟩
  · simp only [setupZone_loe, hloe, hlimit, lineStart_cnt, BitVec.toNat_ofNat]
    omega
  · simp [hloe]
  · simp only [setupZone_loe, hloe, lineStart_activeProfile, BitVec.toNat_ofNat]
    split <;> omega

theorem runLines_succ (n : Nat) (s : State) : runLines (n + 1) s = runLines n (lineEvent s) := rfl

/-- From the mode switch or a row on, the line events up to LAST_LINE send a row each, and the last one ends the
field. -/
theorem InField.runLines {old : List FmAddr} {a0 step last line n : Nat} {s : State}
    (h : InField old a0 step last line n s) (hzone : s.loe.zone = .modeswitch ∨ s.loe.zone = .active)
    (hlast : last < 2 ^ 16) (rows : Nat) (hrows : line + 1 + rows = last) :
    ∃ t, runLines (rows + 1) s = .next t ∧ FieldEnded old a0 step (n + rows) t := by
  induction rows generalizing line n s with
  | zero => exact ⟨lineEvent s, rfl, h.lastActiveLine hzone hrows hlast⟩
  | succ rows ih =>
    obtain ⟨hnext, hactive⟩ := h.activeLine hzone (by omega) hlast
    obtain ⟨t, hrun, hend⟩ := ih hnext (.inr hactive) (by omega)
    exact ⟨t, hrun, by rwa [show n + (rows + 1) = n + 1 + rows by omega]⟩

/-- The line events of a whole field, from its setup line on (R308, R309). -/
theorem InField.runLines_of_setup {old : List FmAddr} {a0 step last line : Nat} {s : State}
    (h : InField old a0 step last line 0 s) (hzone : s.loe.zone = .setup) (hxfer : s.arb.xfer = false)
    (hlast : last < 2 ^ 16) (hline : line < 2 ^ 16 - 1) :
    ∃ t, Machine.runLines (max last (line + 1) - line) s = .next t ∧ FieldEnded old a0 step (last - (line + 2)) t := by
  rcases Nat.lt_or_ge (line + 1) last with hbefore | hpast
  · obtain ⟨hswitch, hmode⟩ := h.switchLine hzone hxfer hbefore hlast
    obtain ⟨t, hrun, hend⟩ := hswitch.runLines (.inl hmode) hlast (last - (line + 2)) (by omega)
    refine ⟨t, ?_, by rwa [Nat.zero_add] at hend⟩
    rw [show max last (line + 1) - line = last - (line + 2) + 1 + 1 by omega]
    exact hrun
  · refine ⟨lineEvent s, ?_, ?_⟩
    · rw [show max last (line + 1) - line = 1 by omega]
      rfl
    · rw [show last - (line + 2) = 0 by omega]
      exact h.lastSwitchLine hzone hpast hline

/-- Settles O50: the setup line, then the field. -/
theorem fieldEmitsItsRows : Obligations.FieldEmitsItsRows := by
  intro s p e last a0 step hp hlast ha0 hstep hout hzone _ hxfer hready he hline
  obtain rfl := eq_activeProfile hp
  obtain rfl : last = min (lineLimit s) s.cnt.lastCount.toNat := hlast
  have htop := (activeProfile s).top.isLt
  obtain ⟨hsetup, hzone'⟩ := inField_of_setupLine hout hzone hready he hline
  rw [← ha0, ← hstep] at hsetup
  obtain ⟨t, hrun, hend⟩ := hsetup.runLines_of_setup hzone' (by simp [lineEvent_of_outEn hout, hzone, zoneStep, hxfer])
    ((Nat.min_le_right _ _).trans_lt s.cnt.lastCount.isLt) (by omega)
  rw [show s.cnt.line.toNat + 1 + 2 = (activeProfile s).top.toNat by omega] at hend
  refine ⟨t, ?_, hend.zone, hend.idle, ?_, fun k hk => ?_⟩
  · rw [← hrun, ← runLines_succ]
    congr 1
    omega
  · have hlength := congrArg List.length hend.rows
    simp only [List.length_map, List.length_append, sentAddrs_length] at hlength
    omega
  · rw [hend.rows, List.getElem?_append_left (by rw [sentAddrs_length]; omega), sentAddrs_getElem? hk]

/-! ### The edges of BUSY (R311, R602) -/

/-- Whether an edge of BUSY from `s` to `t` has its interrupt pending in `t`: BUS_CLAIM, or FIELD_DONE or ABORT. -/
def BusyEdge (s t : State) : Prop :=
  t.loe.busy = s.loe.busy ∨ (t.loe.busy = true ∧ t.irq.pend.getLsbD 3 = true) ∨
    (t.loe.busy = false ∧ (t.irq.pend.getLsbD 4 = true ∨ t.irq.pend.getLsbD 5 = true))

/-- From `s` to `t` no pending bit is lost, and an edge of BUSY is reported. -/
structure BusyReported (s t : State) : Prop where
  kept : ∀ k, s.irq.pend.getLsbD k = true → t.irq.pend.getLsbD k = true
  edge : BusyEdge s t

namespace BusyReported

/-- The rule speaks of BUSY and INT_PEND only. -/
theorem of_frame {s t : State} (hbusy : t.loe.busy = s.loe.busy := by simp)
    (hpend : t.irq.pend = s.irq.pend := by simp) : BusyReported s t :=
  ⟨fun _ hk => hpend ▸ hk, .inl hbusy⟩

theorem refl (s : State) : BusyReported s s := .of_frame rfl rfl

/-- A report of the first part is still pending after the second. -/
theorem trans {s t u : State} (hst : BusyReported s t) (htu : BusyReported t u) : BusyReported s u := by
  refine ⟨fun k hk => htu.kept k (hst.kept k hk), ?_⟩
  rcases htu.edge with hsame | hlater
  · unfold BusyEdge
    rw [hsame]
    exact hst.edge.imp_right (.imp (.imp_right (htu.kept 3)) (.imp_right (.imp (htu.kept 4) (htu.kept 5))))
  · exact .inr hlater

/-- What comes before a reported part may change anything but BUSY and INT_PEND. -/
theorem after {s t u : State} (htu : BusyReported t u) (hbusy : t.loe.busy = s.loe.busy := by rfl)
    (hpend : t.irq.pend = s.irq.pend := by rfl) : BusyReported s u :=
  .trans (.of_frame hbusy hpend) htu

/-- Bits that are raised are added to the pending ones (R603). -/
theorem of_irqAfter {s t : State} {b : BitVec 10} (hirq : t.irq = irqAfter b s) (hedge : BusyEdge s t) :
    BusyReported s t :=
  ⟨fun k hk => by simp [hirq, irqAfter, hk], hedge⟩

theorem raiseInt (n : IntSrc) (s : State) : BusyReported s (raiseInt n s) :=
  .of_irqAfter (congrArg State.irq (raiseInt_eq n s)) (.inl rfl)

theorem cutStream (overrun : Bool) (s : State) : BusyReported s (cutStream overrun s) := by
  rw [cutStream_eq]
  cases overrun with
  | false => exact .of_frame rfl rfl
  | true => exact .of_irqAfter rfl (.inl rfl)

/-- Setup claims the bus and raises BUS_CLAIM (R302). -/
theorem setupZone (s : State) : BusyReported s (setupZone s) := by
  rw [setupZone_eq]
  refine .of_irqAfter rfl (.inr (.inl ⟨rfl, ?_⟩))
  simp only [irqAfter, BitVec.getLsbD_or]
  split <;> simp

/-- A teardown releases the bus and raises FIELD_DONE (R305). -/
theorem teardown (switched : Bool) (s : State) : BusyReported s (teardown switched s) := by
  cases switched with
  | false =>
    rw [teardown_false_eq]
    exact .of_irqAfter rfl (.inr (.inr ⟨rfl, .inl (by simp [irqAfter])⟩))
  | true =>
    rw [teardown_true_eq]
    exact .of_irqAfter rfl (.inr (.inr ⟨rfl, .inl (by simp [irqAfter])⟩))

/-- A forced teardown releases the bus and raises ABORT (R306). -/
theorem abortTeardown (s : State) : BusyReported s (abortTeardown s) := by
  rw [(abortTeardown_spec s : Machine.abortTeardown s = _)]
  exact .of_irqAfter rfl (.inr (.inr ⟨rfl, .inr (by simp [irqAfter])⟩))

theorem prerollStep (s : State) : BusyReported s (prerollStep s) := by
  rcases prerollStep_cases s with ⟨_, heq⟩ | ⟨_, heq⟩
  · exact heq ▸ setupZone s
  · exact heq.symm ▸ refl s

theorem switchStep (s : State) : BusyReported s (switchStep s) := by
  rcases switchStep_cases s with ⟨_, heq⟩ | ⟨_, _, heq⟩ | ⟨_, _, heq⟩
  · exact heq ▸ teardown false s
  · exact heq.symm ▸ refl s
  · exact heq ▸ of_frame

theorem activeStep (s : State) : BusyReported s (activeStep s) := by
  rcases activeStep_cases s with ⟨_, heq⟩ | ⟨_, heq⟩
  · exact heq ▸ teardown true s
  · exact heq ▸ of_frame

theorem zoneStep (z : Zone) (s : State) : BusyReported s (zoneStep z s) := by
  cases z with
  | preroll => exact prerollStep s
  | setup => exact switchStep s
  | modeswitch | active => exact activeStep s
  | teardown => exact refl s

theorem loeStepIn (z : Zone) (s : State) : BusyReported s (loeStepIn z s) := by
  rcases loeStepIn_cases z s with ⟨_, heq⟩ | ⟨_, _, heq⟩ | ⟨_, _, heq⟩
  · exact heq.symm ▸ .refl s
  · exact heq ▸ (cutStream true s).trans (zoneStep z _)
  · exact heq ▸ zoneStep z s

theorem lineEvent (s : State) : BusyReported s (lineEvent s) :=
  (loeStepIn s.loe.zone { s with cnt := { s.cnt with line := s.cnt.line + 1 } }).after

theorem fieldStart (s : State) : BusyReported s (fieldStart s) := by
  have htorn : BusyReported s (tornDown s) := by
    unfold tornDown
    split
    · exact abortTeardown s
    · exact refl s
  rw [fieldStart_eq]
  exact htorn.trans (.of_frame rfl rfl)

theorem genuineSync (ntsc : Bool) (s : State) : BusyReported s (genuineSync ntsc s) := by
  unfold Machine.genuineSync
  dsimp only
  split
  · exact .of_frame rfl rfl
  · exact (raiseInt .srcChg _).after

theorem verticalSync (kind : SyncKind) (x : Bool) (s : State) : BusyReported s (verticalSync kind x s) := by
  unfold Machine.verticalSync
  refine .trans ?_ (raiseInt .vsync _)
  cases kind with
  | genuine => exact (fieldStart s).trans (genuineSync x _)
  | internal => exact (fieldStart s).trans (.of_frame rfl rfl)

theorem vsyncEvent (s : State) : BusyReported s (vsyncEvent s) := by
  unfold Machine.vsyncEvent
  split
  · exact verticalSync _ _ s
  · exact refl s

theorem csyncEvent (s : State) : BusyReported s (csyncEvent s) := by
  unfold Machine.csyncEvent
  dsimp only
  split
  · split
    · exact refl s
    · split
      · exact (lineEvent _).after
      · exact .of_frame rfl rfl
  · exact refl s

theorem matchPattern (s : State) : BusyReported s (matchPattern s) := by
  unfold Machine.matchPattern
  dsimp only
  split
  · exact (verticalSync _ _ _).after
  · split
    · exact (verticalSync _ _ _).after
    · exact refl s

theorem loseLock (s : State) : BusyReported s (loseLock s) := by
  rw [loseLock_eq]
  exact .of_irqAfter rfl (.inl rfl)

theorem acceptedEdge (delta : Nat) (s : State) : BusyReported s (acceptedEdge delta s) := by
  unfold Machine.acceptedEdge
  split
  · split
    · exact lineEvent s
    · exact (loseLock s).trans (matchPattern _)
  · exact matchPattern s

theorem cmpEvent (s : State) : BusyReported s (cmpEvent s) := by
  unfold Machine.cmpEvent
  dsimp only
  split
  · split
    · split
      · exact refl s
      · split
        · exact refl s
        · exact (acceptedEdge _ (classify _ _)).after (by simp) (by simp)
    · exact .of_frame rfl rfl
  · exact refl s

theorem syncPulses_lineEvent (s : State) : BusyReported s (syncPulses (Machine.lineEvent s)) :=
  (lineEvent s).trans (.of_frame rfl rfl)

theorem firstGenLine (s : State) : BusyReported s (firstGenLine s) :=
  (verticalSync .internal true s).trans (syncPulses_lineEvent _)

theorem timeoutSwitch (s : State) : BusyReported s (timeoutSwitch s) :=
  (raiseInt .srcChg _).after.trans (firstGenLine _).after

theorem refTickEvent (s : State) : BusyReported s (refTickEvent s) := by
  unfold Machine.refTickEvent
  dsimp only
  split
  · split
    · exact (timeoutSwitch _).after
    · exact .of_frame rfl rfl
  · exact refl s

theorem genFieldStart (n : Nat) (s : State) : BusyReported s (genFieldStart n s) := by
  rcases genFieldStart_cases n s with ⟨odd, heq⟩ | heq
  · exact heq ▸ verticalSync .internal odd s
  · exact heq.symm ▸ refl s

theorem genLineEvent (s : State) : BusyReported s (genLineEvent s) := by
  by_cases hrun : s.ctrl.enable = true ∧ s.gen.running = true
  · rw [genLineEvent_of_running hrun.1 hrun.2]
    exact ((genFieldStart _ (atGenLine _ s)).trans (syncPulses_lineEvent _)).after
  · rw [genLineEvent_of_gated (by simpa [Classical.or_iff_not_imp_left] using hrun)]
    exact refl s

theorem disableEffects (s : State) : BusyReported s (disableEffects s) := by
  have habort : ∀ t : State, BusyReported t (if zoneBusy t.loe.zone then Machine.abortTeardown t else t) := by
    intro t
    split
    · exact abortTeardown t
    · exact refl t
  exact .after (t := syncModeEffects s) ((habort _).trans (.of_frame rfl rfl))

theorem enableEffects (s : State) : BusyReported s (enableEffects s) := by
  unfold Machine.enableEffects
  dsimp only
  split
  · exact .of_frame rfl rfl
  · exact (firstGenLine _).after

theorem enableChange (old : Ctrl) (s : State) : BusyReported s (enableChange old s) := by
  unfold Machine.enableChange
  split
  · exact refl s
  · split
    · exact enableEffects s
    · exact disableEffects s

theorem writeCtrl (v : Word) (s : State) : BusyReported s (writeCtrl v s) := by
  unfold Machine.writeCtrl
  dsimp only
  refine .after (t := { s with ctrl := ctrlAfter v s }) (.trans ?_ (enableChange _ _))
  split
  · exact refl _
  · exact .of_frame rfl rfl

end BusyReported

@[simp] theorem unlessXfer_loe (a : Arbiter) (s : State) : (unlessXfer a s).loe = s.loe := by
  unfold unlessXfer
  split <;> rfl

/-- Of the register writes only CTRL's reaches BUSY. -/
theorem writeReg_busyEdge (r : Reg) (v : Word) (s : State) : BusyEdge s (writeReg r v s) := by
  cases r with
  | ctrl => exact (BusyReported.writeCtrl v s).edge
  | fmAddrLo | fmAddrHi | fmLen | fmWdata | fmBufptr => exact .inl (congrArg LineOut.busy (unlessXfer_loe _ s))
  | fmCmd => exact .inl (congrArg LineOut.busy (fmCommand_loe _ s))
  | _ => exact .inl rfl

/-- Whatever an operation has run, an edge of BUSY is reported, but for a reset's. -/
theorem Ran.busyEdge {i : Instr} {s t : State} (h : Ran s i t) : i = .evReset ∨ BusyEdge s t := by
  cases h with
  | reset hi => exact .inl hi
  | read | command | qwrite | qread | dread | rstio | edio | eqio | hostRead | xferDone | pixStart =>
    exact .inr (.inl (by simp))
  | write r v => exact .inr (writeReg_busyEdge r v s)
  | reserved write a => exact .inr (reservedAccess_rule write a (.inl rfl) (.inl rfl))
  | csync => exact .inr (BusyReported.csyncEvent s).edge
  | vsync => exact .inr (BusyReported.vsyncEvent s).edge
  | cmp => exact .inr (BusyReported.cmpEvent s).edge
  | refTick => exact .inr (BusyReported.refTickEvent s).edge
  | genLine => exact .inr (BusyReported.genLineEvent s).edge
  | hostWrite a v => exact .inr (hostWrite_rule a (.inl rfl) fun r => writeReg_busyEdge r v s)
  | streamEnd =>
    refine .inr (.inl ?_)
    unfold streamEndEvent
    split <;> rfl
  | line => exact .inr (BusyReported.lineEvent s).edge
  | verticalSync kind x => exact .inr (BusyReported.verticalSync kind x s).edge
  | timeout => exact .inr (BusyReported.timeoutSwitch s).edge
  | zone z => exact .inr (BusyReported.loeStepIn z s).edge
  | idle => exact .inr (.inl rfl)

/-- Settles O60: what an operation has run, by `Ran`, reports an edge of BUSY. -/
theorem busyEdgesAreReported : Obligations.BusyEdgesAreReported := fun _ _ _ hexec hedge =>
  (ran_of_exec hexec).busyEdge.imp_right fun h => h.resolve_left hedge

end Sys2Proof.Machine
end

section
/-! PROOFS. The frame-memory pins (spec/10_state.md R42, spec/30_encoding.md R137): what a frame on the wires drives and
reads in each of its clocks, when `fm_cs_n` is low, and the events of the pixel stream (spec/42_line_output.md R313). -/

namespace Sys2Proof.Machine

/-! ### The bits of a byte on the lines of a mode (R137) -/

/-- The clocks that a byte takes in a mode. -/
def clocksPerByte : DevMode → Nat
  | .quad => 2
  | .dual => 4
  | .single => 8

/-- The number of values that the lines of a mode have in one clock. -/
def lineValues : DevMode → Nat
  | .quad => 16
  | .dual => 4
  | .single => 2

/-- What the lines of a mode carry in clock `j` of the byte `b`, the most significant bits first. -/
def digit (m : DevMode) (b j : Nat) : Nat := b / lineValues m ^ (clocksPerByte m - 1 - j) % lineValues m

theorem clocksPerByte_pos (m : DevMode) : 0 < clocksPerByte m := by cases m <;> decide

theorem lineValues_range (m : DevMode) : 0 < lineValues m ∧ lineValues m ≤ 2 ^ 4 := by cases m <;> decide

theorem byteLines_eq (m : DevMode) (b : Byte) :
    byteLines m b = (List.range (clocksPerByte m)).map fun j => BitVec.ofNat 4 (digit m b.toNat j) := by
  revert b
  cases m <;> decide

theorem byteLines_length (m : DevMode) (b : Byte) : (byteLines m b).length = clocksPerByte m := by
  rw [byteLines_eq, List.length_map, List.length_range]

/-- Clock `k` of a run of bytes carries its part of byte `k / clocksPerByte m`. -/
theorem flatMap_byteLines_getElem? (m : DevMode) (bytes : List Byte) (k : Nat) :
    (bytes.flatMap (byteLines m))[k]? =
      bytes[k / clocksPerByte m]?.map fun b => BitVec.ofNat 4 (digit m b.toNat (k % clocksPerByte m)) := by
  have hj := Nat.mod_lt k (clocksPerByte_pos m)
  rw [← Nat.div_add_mod k (clocksPerByte m), getElem?_flatMap_const (byteLines_length m) hj, Nat.div_add_mod]
  cases bytes[k / clocksPerByte m]? with
  | none => rfl
  | some b => simp [byteLines_eq, List.getElem?_range hj]

theorem toNat_ofNat_digit (m : DevMode) (b j : Nat) : (BitVec.ofNat 4 (digit m b j)).toNat = digit m b j := by
  obtain ⟨hpos, hle⟩ := lineValues_range m
  have hdigit : digit m b j < 2 ^ 4 := (Nat.mod_lt _ hpos).trans_le hle
  rw [BitVec.toNat_ofNat, Nat.mod_eq_of_lt hdigit]

/-! ### The bytes that a frame drives (R85, R136, R137) -/

theorem headerBytes_toNat (cmd : Byte) (a : FmAddr) :
    (headerBytes cmd a).map BitVec.toNat =
      [cmd.toNat, a.toNat / 65536, a.toNat / 256 % 256, a.toNat % 256] := by
  have ha := a.isLt
  simp only [headerBytes, List.map_cons, List.map_nil, BitVec.extractLsb'_toNat, Nat.shiftRight_eq_div_pow,
    Nat.pow_zero, Nat.div_one, List.cons.injEq, and_true, true_and]
  omega

theorem isFrame_iff (f : Frame) : isFrame f = true ↔ ∀ m : Nat, f ≠ .toggles m := by cases f <;> simp [isFrame]

/-- A frame drives the model's bytes in the model's mode. -/
theorem frameDrives_eq {c : CmdBytes} {f : Frame} {m : DevMode} {bytes : List Nat} (h : FrameDrives c f m bytes) :
    isFrame f = true ∧ m = frameMode f ∧ bytes = (frameBytes c f).map BitVec.toNat := by
  cases h with
  | qwrite a data => exact ⟨rfl, rfl, by rw [frameBytes, List.map_append, headerBytes_toNat]⟩
  | qread a n => exact ⟨rfl, rfl, (headerBytes_toNat c.read a).symm⟩
  | dread a n => exact ⟨rfl, rfl, (headerBytes_toNat c.read a).symm⟩
  | _ => exact ⟨rfl, rfl, rfl⟩

/-- `ClockDrives`, in the terms of a mode's clocks and lines. -/
theorem clockDrives_iff (s : State) (m : DevMode) (bytes : List Nat) (k : Nat) :
    ClockDrives s m bytes k ↔
      (∀ b, bytes[k / clocksPerByte m]? = some b →
        pinFmSioOe s = modeEnable m ∧ (pinFmSioO s).toNat % lineValues m = digit m b (k % clocksPerByte m)) ∧
      (bytes[k / clocksPerByte m]? = none → pinFmSioOe s = 0) := by
  cases m with
  | quad =>
    have hfull : (pinFmSioO s).toNat % lineValues .quad = (pinFmSioO s).toNat := Nat.mod_eq_of_lt (pinFmSioO s).isLt
    rw [hfull]
    rfl
  | dual | single => rfl

/-! ### The clock that runs (R313, R414) -/

section
variable {s : State} {r : WireRec}

theorem wireClock_of_resumed (hdiv : 0 < r.div) (h : r.resume ≤ s.sched.clock) :
    wireClock s r = some (headerClocks s.cfg r.frame + (s.sched.clock - r.resume) / r.div) := by
  simp [wireClock, hdiv.ne', h]

/-- The clocks of a row read's header (R313). -/
theorem wireClock_of_header (hdiv : 0 < r.div) (hwait : s.sched.clock < r.resume)
    (h : (s.sched.clock - r.start) / r.div < headerClocks s.cfg r.frame) :
    wireClock s r = some ((s.sched.clock - r.start) / r.div) := by
  simp [wireClock, hdiv.ne', Nat.not_le.2 hwait, h]

/-- After its header a row read waits for t_pix with `fm_sck` stopped (R313). -/
theorem wireClock_of_waiting (hwait : s.sched.clock < r.resume)
    (h : headerClocks s.cfg r.frame ≤ (s.sched.clock - r.start) / r.div) : wireClock s r = none := by
  simp [wireClock, Nat.not_le.2 hwait, Nat.not_lt.2 h]

/-- Only a row read has a header that is timed apart. -/
theorem wireClock_of_not_rowRead (hdiv : 0 < r.div) (hstart : r.start ≤ s.sched.clock)
    (hframe : ∀ a n, r.frame ≠ .dread a n) (hresume : r.resume = r.start) :
    wireClock s r = some ((s.sched.clock - r.start) / r.div) := by
  have hheader : headerClocks s.cfg r.frame = 0 := by
    unfold headerClocks
    split
    · exact absurd ‹_› (hframe _ _)
    · rfl
  rw [wireClock_of_resumed hdiv (hresume ▸ hstart), hheader, Nat.zero_add, hresume]

/-! ### What a frame drives (R137) -/

theorem drivenLines_eq {k : Nat} (hwire : currentWire s = some r) (hclock : wireClock s r = some k) :
    drivenLines s = (frameNibbles s.cfg.cmds r.frame)[k]?.map fun v => (v, modeEnable (frameMode r.frame)) := by
  simp only [drivenLines, hwire, hclock]
  cases (frameNibbles s.cfg.cmds r.frame)[k]? <;> rfl

/-- The enabled lines carry the driven value, whatever the others are. -/
theorem enabledLines_toNat (m : DevMode) (v free : BitVec 4) :
    ((v &&& modeEnable m) ||| (free &&& ~~~modeEnable m)).toNat % lineValues m = v.toNat % lineValues m := by
  revert v free
  cases m <;> decide

theorem inToggles_of_frame (hwire : currentWire s = some r) (hframe : isFrame r.frame = true) :
    inToggles s = false := by
  simp [inToggles, hwire, hframe]

/-- The clock that runs carries its part of the frame's bytes, and after the last byte the lines are released. -/
theorem clockDrives_of_wireClock {m : DevMode} {bytes : List Nat} {k : Nat} (hwire : currentWire s = some r)
    (hclock : wireClock s r = some k) (hdrives : FrameDrives s.cfg.cmds r.frame m bytes) : ClockDrives s m bytes k := by
  obtain ⟨hframe, rfl, rfl⟩ := frameDrives_eq hdrives
  have hdriven := drivenLines_eq hwire hclock
  rw [frameNibbles, flatMap_byteLines_getElem?] at hdriven
  rw [clockDrives_iff, List.getElem?_map]
  cases hbyte : (frameBytes s.cfg.cmds r.frame)[k / clocksPerByte (frameMode r.frame)]? with
  | none =>
    rw [hbyte] at hdriven
    refine ⟨nofun, fun _ => ?_⟩
    rw [pinFmSioOe, hdriven, inToggles_of_frame hwire hframe]
    rfl
  | some byte =>
    rw [hbyte] at hdriven
    refine ⟨fun b hb => ?_, nofun⟩
    obtain rfl := Option.some.inj hb
    rw [pinFmSioOe, pinFmSioO, hdriven]
    refine ⟨rfl, ?_⟩
    rw [Option.map_some, Option.map_some, enabledLines_toNat, toNat_ofNat_digit, digit, Nat.mod_mod]

theorem pins_of_stopped (hwire : currentWire s = some r) (hframe : isFrame r.frame = true)
    (hclock : wireClock s r = none) : pinFmSck s = false ∧ pinFmSioOe s = 0 := by
  simp [pinFmSck, pinFmSioOe, drivenLines, inToggles, hwire, hclock, hframe]

theorem pins_of_no_wire (h : currentWire s = none) : pinFmCsN s = true ∧ pinFmSck s = false ∧ pinFmSioOe s = 0 := by
  simp [pinFmCsN_of_no_wire h, pinFmSck, pinFmSioOe, drivenLines, inToggles, h]

/-! ### `fm_cs_n` (R137, R400, R414) -/

theorem followsAtOnce_iff :
    followsAtOnce s r = true ↔
      ∃ q, wireBefore s r = some q ∧ (∀ m : Nat, q.frame ≠ .toggles m) ∧ r.start ≤ q.stop := by
  unfold followsAtOnce
  cases wireBefore s r with
  | none => simp
  | some q => simp [isFrame_iff]

/-- The record before a frame is the newest older one that started earlier. -/
theorem startsAtAnEnd_iff (before : List WireRec) :
    StartsAtAnEnd before r ↔
      ∃ q, before.find? (fun q => decide (q.start < r.start)) = some q ∧ (∀ m : Nat, q.frame ≠ .toggles m) ∧
        r.start ≤ q.stop := by
  simp only [List.find?_eq_some_iff_append, decide_eq_true_eq, Bool.not_eq_true', decide_eq_false_iff_not, Nat.not_lt]
  constructor
  · rintro ⟨between, older, q, hbefore, hbetween, hearlier, hstop, hframe⟩
    exact ⟨q, ⟨hearlier, between, older, hbefore, hbetween⟩, hframe, hstop⟩
  · rintro ⟨q, ⟨hearlier, between, older, hbefore, hbetween⟩, hframe, hstop⟩
    exact ⟨between, older, q, hbefore, hbetween, hearlier, hstop, hframe⟩

/-- A frame is one low period of `fm_cs_n` from its start on; where it follows another at once it falls later. -/
theorem pinFmCsN_iff (hwire : currentWire s = some r) (hframe : isFrame r.frame = true)
    (hstart : r.start ≤ s.sched.clock) :
    pinFmCsN s = true ↔
      followsAtOnce s r = true ∧ s.sched.clock < r.start + 1 + Config.selectHigh r.start % r.div := by
  have hselected : pinFmCsN s = true ↔ s.sched.clock < selectedAt s r := by simp [pinFmCsN, hwire, hframe]
  rw [hselected, selectedAt]
  cases followsAtOnce s r with
  | true => simp
  | false => simpa using hstart

theorem pinFmCsN_of_toggles (hwire : currentWire s = some r) (hframe : isFrame r.frame = false) :
    pinFmCsN s = true := by
  simp [pinFmCsN, hwire, hframe]

/-! ### `fm_sio_i` (R42, R137) -/

theorem pinFmSioI_of_data {x : Nat} {v : BitVec 4} (hwire : currentWire s = some r)
    (hclock : wireClock s r = some (dataStart s.cfg r.frame + x)) (hv : (dataLines s r.frame)[x]? = some v) :
    pinFmSioI s = v := by
  simp [pinFmSioI, hwire, hclock, List.getD_eq_getElem?_getD, hv]

/-- SIO1 and SIO0 carry the pixel, whatever the other lines are. -/
theorem pixelLines_toNat (free : BitVec 4) (p : Pixel) : ((free &&& 0xC) ||| p.setWidth 4).toNat % 4 = p.toNat := by
  revert free p
  decide

/-- The data of a row read are the pixels of the newest row, one a clock from t_pix on (R313). -/
theorem pinFmSioI_of_rowRead {a : FmAddr} {n : Nat} {row : Row} {rest : List Row} {p : Pixel}
    (hwire : currentWire s = some r) (hframe : r.frame = .dread a n) (hdiv : 0 < r.div)
    (hresume : r.resume ≤ s.sched.clock) (hrows : s.trace.rows = row :: rest)
    (hp : row.pixels[(s.sched.clock - r.resume) / r.div]? = some p) : (pinFmSioI s).toNat % 4 = p.toNat := by
  have hclock : wireClock s r = some (dataStart s.cfg r.frame + (s.sched.clock - r.resume) / r.div) := by
    rw [wireClock_of_resumed hdiv hresume, hframe]
    rfl
  rw [pinFmSioI_of_data hwire hclock (v := (Config.sioIdle s.sched.clock &&& 0xC) ||| p.setWidth 4), pixelLines_toNat]
  simp [hframe, dataLines, hrows, hp]

/-- The data of a QREAD are the bytes that come in, two clocks each (R137). -/
theorem pinFmSioI_of_qread {a : FmAddr} {n j : Nat} {b : Byte} (hwire : currentWire s = some r)
    (hframe : r.frame = .qread a n) (hclock : wireClock s r = some (8 + s.cfg.dummyQuad + j))
    (hb : (bytesIn s s.sched.xferMode .quad s.sched.xferDraw a.toNat n)[j / 2]? = some b) :
    (pinFmSioI s).toNat = b.toNat / 16 ^ (1 - j % 2) % 16 := by
  rw [pinFmSioI_of_data hwire (x := j) (v := BitVec.ofNat 4 (digit .quad b.toNat (j % 2)))
    (by rw [hclock, hframe]; rfl), toNat_ofNat_digit]
  · rfl
  · rw [hframe, dataLines, devReadBytes_eq, flatMap_byteLines_getElem?]
    exact congrArg _ hb

end

/-! ### The events of the pixel stream (R313) -/

theorem currentWire_stopStream (n : Nat) (s : State) : currentWire (stopStream n s) = none := currentWire_releaseWires _

theorem exec_pixStart_of_streaming {s : State} (h : s.loe.streaming = true) :
    exec .evPixStart s = .next { s with ports := { s.ports with pixValid := true } } :=
  congrArg Host.Outcome.next (if_pos h)

theorem exec_streamEnd_of_streaming {s : State} (h : s.loe.streaming = true) :
    exec .evStreamEnd s = .next (stopStream (4 * s.loe.rw.toNat) s) :=
  congrArg Host.Outcome.next (if_pos h)

theorem exec_streamEvents_of_idle {s : State} (h : s.loe.streaming = false) :
    exec .evPixStart s = .next s ∧ exec .evStreamEnd s = .next s := by
  have hnot : ¬ s.loe.streaming = true := by simp [h]
  exact ⟨congrArg Host.Outcome.next (if_neg hnot), congrArg Host.Outcome.next (if_neg hnot)⟩

theorem pinPixOut_of_valid {s : State} {row : Row} {rest : List Row} {p : Pixel} (hrows : s.trace.rows = row :: rest)
    (hvalid : s.ports.pixValid = true)
    (hp : row.pixels[(s.sched.clock - s.sched.pixDue) / s.loe.pixDiv]? = some p) : pinPixOut s = p := by
  simp [pinPixOut, hvalid, currentPixel, hrows, List.getD_eq_getElem?_getD, hp]

theorem currentWire_of_ended {s : State}
    (h : ∀ q ∈ s.trace.frames, q.start ≤ s.sched.clock → q.stop ≤ s.sched.clock) : currentWire s = none := by
  unfold currentWire
  split
  · rename_i r hr
    have hstart : r.start ≤ s.sched.clock := by simpa using List.find?_some hr
    rw [if_neg (Nat.not_lt.2 (h r (List.mem_of_find?_eq_some hr) hstart))]
  · rfl

/-- Settles O49: the two events, then the pins of the record `r` on the wires, and of none. -/
theorem streamEvents : Obligations.StreamEvents := by
  refine ⟨fun s hstream => ?events, fun s hidle => exec_streamEvents_of_idle hidle,
    fun s row rest p hrows hvalid hp => pinPixOut_of_valid hrows hvalid hp,
    fun s after before r hframes hafter hstart hstop hdiv => ?frame,
    fun s hended => pins_of_no_wire (currentWire_of_ended hended)⟩
  case events =>
    obtain ⟨hselect, _, henable⟩ := pins_of_no_wire (currentWire_stopStream (4 * s.loe.rw.toNat) s)
    refine ⟨exec_pixStart_of_streaming hstream, _, exec_streamEnd_of_streaming hstream, ?_, hselect, henable⟩
    unfold stopStream
    cases s.trace.rows <;> rfl
  case frame =>
    have hwire := currentWire_append s after before r hframes hafter hstart hstop
    refine ⟨fun ⟨m, hm⟩ => pinFmCsN_of_toggles hwire (by rw [hm]; rfl), fun hframe => ?select,
      fun m bytes k hdrives hother hresume hk => ?drives, fun a n m bytes k hframe hdrives hk => ?rowRead,
      fun a n j b hframe hresume hj hb => ?qread⟩
    case select =>
      rw [pinFmCsN_iff hwire ((isFrame_iff _).2 hframe) hstart, followsAtOnce_iff, startsAtAnEnd_iff,
        wireBefore_append s after before r hframes hafter hstart]
    case drives =>
      exact clockDrives_of_wireClock hwire (hk ▸ wireClock_of_not_rowRead hdiv hstart hother hresume) hdrives
    case rowRead =>
      have hheader : headerClocks s.cfg r.frame = 16 + s.cfg.dummyDual := by rw [hframe]; rfl
      refine ⟨fun hwait hpast => ?_, fun hruns => clockDrives_of_wireClock hwire ?_ hdrives,
        fun hdata row rest p hrows hp => pinFmSioI_of_rowRead hwire hframe hdiv hdata hrows hp⟩
      · have hclock : k = (s.sched.clock - r.start) / r.div := by
          rcases hk with ⟨_, hk⟩ | ⟨hdata, _⟩
          · exact hk
          · omega
        exact pins_of_stopped hwire (by rw [hframe]; rfl)
          (wireClock_of_waiting hwait (by rw [hheader, ← hclock]; exact hpast))
      · rcases hk with ⟨hwait, hk⟩ | ⟨hdata, hk⟩
        · rw [hk]
          exact wireClock_of_header hdiv hwait (by omega)
        · rw [wireClock_of_resumed hdiv hdata, hheader, hk]
    case qread =>
      exact pinFmSioI_of_qread hwire hframe
        (hj ▸ wireClock_of_not_rowRead hdiv hstart (by rw [hframe]; nofun) hresume) hb

end Sys2Proof.Machine
end

section
/-! PROOFS. The frame memory (spec/43_frame_memory.md R401 to R413): the device on its frames, the issue and the refusal
of the host's commands, and their completions. -/

namespace Sys2Proof.Machine

/-! ### A run of bytes in a memory (R84) -/

theorem add_mod_ne {a n size : Nat} (hpos : 0 < n) (hlt : n < size) : (a + n) % size ≠ a % size := fun h => by
  have hmod : n % size = 0 % size := Nat.ModEq.add_left_cancel' a h
  rw [Nat.mod_eq_of_lt hlt, Nat.zero_mod] at hmod
  omega

/-- A run that is no longer than the memory does not reach its own bytes again: each of them is read back (R84). -/
theorem memRead_memWriteBytes_at {size : Nat} {data : List Byte} (m : Memory) (a : Nat) (hfit : data.length ≤ size)
    {i : Nat} (hi : i < data.length) : memRead (memWriteBytes size m a data) ((a + i) % size) = some data[i] := by
  induction data generalizing m a i with
  | nil => nomatch hi
  | cons b rest ih =>
    rw [List.length_cons] at hfit hi
    cases i with
    | zero =>
      rw [memWriteBytes, memRead_memWriteBytes_outside, Nat.add_zero, memRead_memWrite_same, List.getElem_cons_zero]
      intro j hj
      rw [Nat.add_assoc]
      exact (add_mod_ne (by omega) (by omega)).symm
    | succ i =>
      rw [← Nat.add_assoc, Nat.add_right_comm]
      exact ih _ _ (by omega) (by omega)

/-- A run that ends inside the memory, read at any address. -/
theorem memRead_memWriteBytes {size lo : Nat} {data : List Byte} (m : Memory) (hfit : lo + data.length ≤ size)
    (x : Nat) : memRead (memWriteBytes size m lo data) x =
      if lo ≤ x ∧ x < lo + data.length then data[x - lo]? else memRead m x := by
  split_ifs with hx
  · obtain ⟨i, rfl⟩ := Nat.exists_eq_add_of_le hx.1
    have hi : i < data.length := by omega
    have hread := memRead_memWriteBytes_at m lo (by omega : data.length ≤ size) hi
    rw [Nat.mod_eq_of_lt (by omega)] at hread
    rw [hread, Nat.add_sub_cancel_left, List.getElem?_eq_getElem hi]
  · refine memRead_memWriteBytes_outside _ _ _ _ _ fun i hi => ?_
    rw [Nat.mod_eq_of_lt (by omega)]
    omega

/-! ### The device on its frames (R413) -/

theorem devWrite_of_quad (a : FmAddr) (data : List Byte) (s : State) :
    devWrite .quad a data s =
      { s with dev := { s.dev with mem := memWriteBytes s.cfg.fmBytes s.dev.mem a.toNat data } } :=
  if_pos rfl

theorem devWrite_of_ne {start : DevMode} (h : start ≠ .quad) (a : FmAddr) (data : List Byte) (s : State) :
    devWrite start a data s = devScramble s :=
  if_neg h

theorem devRead_of_same (m : DevMode) (k : Nat) (a : FmAddr) (n : Nat) (s : State) :
    devRead m m k a n s = { s with dev := { s.dev with out := bytesIn s m m k a.toNat n } } := by
  simp [devRead, devReadBytes_eq]

theorem devRead_of_ne {start m : DevMode} (h : start ≠ m) (k : Nat) (a : FmAddr) (n : Nat) (s : State) :
    devRead start m k a n s =
      devScramble { s with dev := { s.dev with out := bytesIn s start m k a.toNat n } } := by
  simp [devRead, devReadBytes_eq, h]

theorem devEnter_of_single {s : State} (h : s.dev.mode = .single) (m : DevMode) :
    devEnter m s = { s with dev := { s.dev with mode := m } } :=
  if_pos h

theorem devEnter_of_ne {s : State} (h : s.dev.mode ≠ .single) (m : DevMode) : devEnter m s = devScramble s := if_neg h

/-- The byte of a memory, or the draw that stands for it where nothing was written (R38, R43). -/
def byteOr (draw : Byte) (stored : Option Byte) : Byte :=
  match stored with
  | some b => b
  | none => draw

theorem getD_eq_byteOr (stored : Option Byte) (draw : Byte) : stored.getD draw = byteOr draw stored := by
  cases stored <;> rfl

/-- The device's bytes, while it drives `fm_sio_i` in its own mode: a draw where nothing was written (R413, R43). -/
theorem bytesIn_of_device {s : State} (hsio : s.dev.sio = .device) (m : DevMode) (k a : Nat) {n i : Nat} (hi : i < n) :
    (bytesIn s m m k a n)[i]? = some (byteOr (Config.drawByte k i) (memRead s.dev.mem ((a + i) % s.cfg.fmBytes))) := by
  simp only [bytesIn, hsio, if_true, List.getElem?_map, List.getElem?_range hi]
  rfl

/-- Settles O29: in the device's own mode a write is a run of bytes, and a read only brings bytes in. -/
theorem deviceFrames : Obligations.DeviceFrames := by
  refine fun s a data n => ⟨fun hmode => ?qwrite, ?read, rfl, rfl, rfl, fun hmode =>
    ⟨congrArg Host.Outcome.next (devEnter_of_single hmode .dual),
      congrArg Host.Outcome.next (devEnter_of_single hmode .quad)⟩⟩
  case qwrite =>
    have hwrite : exec (.qwrite a data) s = .next (devWrite .quad a data s) := hmode ▸ rfl
    rw [devWrite_of_quad] at hwrite
    exact ⟨_, hwrite, rfl, fun hfit i hi => memRead_memWriteBytes_at _ _ hfit hi,
      fun x hx => memRead_memWriteBytes_outside _ _ _ _ _ hx⟩
  case read =>
    have hread : ∀ m, s.dev.mode = m → devRead s.dev.mode m s.sched.draws a n (nextDraw s) = { s with
        dev := { s.dev with out := bytesIn s m m s.sched.draws a.toNat n },
        sched := { s.sched with draws := s.sched.draws + 1 } } := by
      intro m hmode
      rw [hmode, devRead_of_same]
      rfl
    rintro i m (⟨rfl, rfl⟩ | ⟨rfl, rfl⟩) hmode
    · exact congrArg Host.Outcome.next (hread _ hmode)
    · exact congrArg Host.Outcome.next (hread _ hmode)

/-- Settles O30: each of the five frames scrambles the device, the read frames after a draw of their own. -/
theorem wrongModeFrames : Obligations.WrongModeFrames := by
  rintro s a data n i (⟨rfl, hmode⟩ | ⟨rfl, hmode⟩ | ⟨rfl, hmode⟩ | ⟨rfl | rfl, hmode⟩)
  · exact ⟨_, s.sched.draws, congrArg Host.Outcome.next (devWrite_of_ne hmode _ _ _), Nat.le_refl _, rfl,
      memRead_nil⟩
  · exact ⟨_, s.sched.draws + 1, congrArg Host.Outcome.next (devRead_of_ne hmode _ _ _ _), Nat.le_succ _, rfl,
      memRead_nil⟩
  · exact ⟨_, s.sched.draws + 1, congrArg Host.Outcome.next (devRead_of_ne hmode _ _ _ _), Nat.le_succ _, rfl,
      memRead_nil⟩
  · exact ⟨_, s.sched.draws, congrArg Host.Outcome.next (devEnter_of_ne hmode _), Nat.le_refl _, rfl, memRead_nil⟩
  · exact ⟨_, s.sched.draws, congrArg Host.Outcome.next (devEnter_of_ne hmode _), Nat.le_refl _, rfl, memRead_nil⟩

/-! ### The refusals of a command (R403, R409) -/

theorem fmCommand_of_reserved {op : BitVec 4} (h : 4 ≤ op.toNat) (s : State) :
    fmCommand op s = cmdError .badcmd s := by
  unfold fmCommand
  split
  case h_5 => rfl
  all_goals omega

/-- Settles O21: a reserved opcode is 4 at least. -/
theorem commandNopAndReserved : Obligations.CommandNopAndReserved := by
  refine fun s x y => ⟨rfl, ?_, ?_⟩
  · exact congrArg Host.Outcome.next (fmCommand_of_reserved (by revert x; decide) s)
  · exact congrArg Host.Outcome.next (fmCommand_of_reserved (by revert y; decide) s)

/-- The opcode that issues a transaction of a kind (R130). -/
def issueOf : XferKind → Instr
  | .init => .fmInit
  | .write => .fmWrite
  | .read => .fmRead

theorem exec_issueOf (k : XferKind) (s : State) : exec (issueOf k) s = .next (issueCommand k s) := by cases k <;> rfl

theorem exec_of_refused {k : XferKind} {s : State} {code : ErrCode} (h : issueError k s = some code) :
    exec (issueOf k) s = .next { s with arb := { s.arb with err := code }, irq := irqAfter 0x100 s } := by
  rw [exec_issueOf, issueCommand, h]
  rfl

theorem exec_of_accepted {k : XferKind} {s : State} (h : issueError k s = none) :
    exec (issueOf k) s = .next (startTransfer k s) := by
  rw [exec_issueOf, issueCommand, h]

theorem exists_issueOf {i : Instr} (h : i = .fmInit ∨ i = .fmWrite ∨ i = .fmRead) : ∃ k, i = issueOf k := by
  rcases h with rfl | rfl | rfl
  exacts [⟨.init, rfl⟩, ⟨.write, rfl⟩, ⟨.read, rfl⟩]

theorem exists_issueOf_transfer {i : Instr} (h : i = .fmWrite ∨ i = .fmRead) :
    ∃ k, k ≠ .init ∧ i = issueOf k := by
  rcases h with rfl | rfl
  exacts [⟨.write, nofun, rfl⟩, ⟨.read, nofun, rfl⟩]

/-- Settles O22: each clause is the first of R403's checks that fails. -/
theorem commandRefusals : Obligations.CommandRefusals := by
  refine fun s => ⟨fun hxfer i hi => ?xfer, fun hxfer hbusy i hi => ?busy, fun hxfer hbusy hready i hi => ?notready,
    fun hxfer hbusy hready hlen i hi => ?len, fun hxfer hbusy hready hzero hlen hrange i hi => ?range⟩
  case xfer =>
    obtain ⟨k, rfl⟩ := exists_issueOf hi
    exact exec_of_refused (by simp [issueError, hxfer])
  case busy =>
    obtain ⟨k, rfl⟩ := exists_issueOf hi
    exact exec_of_refused (by simp [issueError, hxfer, hbusy])
  case notready =>
    obtain ⟨k, hk, rfl⟩ := exists_issueOf_transfer hi
    exact exec_of_refused (by simp [issueError, hxfer, hbusy, hk, hready])
  case len =>
    obtain ⟨k, hk, rfl⟩ := exists_issueOf_transfer hi
    have hlen' : s.arb.fmLen.toNat = 0 ∨ s.cfg.bufDepth < s.arb.fmLen.toNat := hlen.imp_left fun h => by simp [h]
    exact exec_of_refused (by simp only [issueError, hxfer, hbusy, hk, hready, if_pos hlen']; rfl)
  case range =>
    obtain ⟨k, hk, rfl⟩ := exists_issueOf_transfer hi
    have hlen' : ¬(s.arb.fmLen.toNat = 0 ∨ s.cfg.bufDepth < s.arb.fmLen.toNat) := by
      rintro (h | h)
      · exact hzero (BitVec.eq_of_toNat_eq h)
      · omega
    exact exec_of_refused (by simp only [issueError, hxfer, hbusy, hk, hready, if_neg hlen', if_pos hrange]; rfl)

/-! ### The issue of a command (R401, R406 to R408) -/

/-- A command is accepted exactly where every check of its kind passes (R403). -/
theorem issueError_eq_none_iff (k : XferKind) (s : State) :
    issueError k s = none ↔ s.arb.xfer = false ∧ s.loe.busy = false ∧
      (k ≠ .init → s.arb.ready = true ∧ 1 ≤ s.arb.fmLen.toNat ∧ s.arb.fmLen.toNat ≤ s.cfg.bufDepth ∧
        s.arb.fmAddr.toNat + s.arb.fmLen.toNat ≤ s.cfg.fmBytes) := by
  unfold issueError
  split_ifs with hxfer hbusy hinit hready hlen hrange
  · simp [hxfer]
  · simp [hbusy]
  · simp [hxfer, hbusy, hinit]
  · exact ⟨nofun, fun ⟨_, _, h⟩ => by simp [h hinit] at hready⟩
  · refine ⟨nofun, fun ⟨_, _, h⟩ => ?_⟩
    have hchecks := h hinit
    omega
  · refine ⟨nofun, fun ⟨_, _, h⟩ => ?_⟩
    have hchecks := h hinit
    omega
  · simp only [Bool.not_eq_true, Bool.not_eq_false'] at hxfer hbusy hready
    exact ⟨fun _ => ⟨hxfer, hbusy, fun _ => ⟨hready, by omega⟩⟩, fun _ => rfl⟩

/-- The bytes of a WRITE are the buffer's first FM_LEN, a draw where the host never wrote (R407, R38). -/
theorem bufBytes_eq {s : State} (h : s.arb.fmLen.toNat ≤ s.cfg.bufDepth) (k : Nat) :
    bufBytes k s =
      (List.range s.arb.fmLen.toNat).map fun i => byteOr (Config.drawByte k i) (memRead s.arb.buf i) := by
  refine List.map_congr_left fun i hi => ?_
  rw [Nat.zero_add, Nat.mod_eq_of_lt ((List.mem_range.1 hi).trans_le h), getD_eq_byteOr]

@[simp] theorem bufBytes_length (k : Nat) (s : State) : (bufBytes k s).length = s.arb.fmLen.toNat := by
  simp [bufBytes, memReadBytes]

/-- What the issue of a command with one frame `f` of `n` clocks does (R401). -/
theorem startTransfer_of_frame {k : XferKind} {s : State} {f : Frame} {n : Nat} (hframes : commandFrames k s = [f])
    (hclocks : frameClocks s.cfg f = n) :
    startTransfer k s = { s with
      arb := { s.arb with err := .ok, xfer := true, kind := k },
      sched := { s.sched with xferDue := s.sched.clock + n * s.cfg.fmSckDiv, xferDraw := s.sched.draws,
                              xferMode := s.dev.mode, draws := s.sched.draws + 1 },
      trace := { s.trace with frames :=
        { frame := f, start := s.sched.clock, stop := s.sched.clock + n * s.cfg.fmSckDiv, div := s.cfg.fmSckDiv,
          resume := s.sched.clock } :: s.trace.frames } } := by
  subst hclocks
  rw [startTransfer, hframes]
  rfl

/-- Settles O23: INIT has no check of its own, and its two frames have 8 clocks each. -/
theorem initIssue : Obligations.InitIssue := by
  intro s hxfer hbusy
  rw [show exec .fmInit s = .next (startTransfer .init s) from
    exec_of_accepted (k := .init) ((issueError_eq_none_iff _ _).2 ⟨hxfer, hbusy, nofun⟩)]
  rfl

/-- Settles O24: a frame each, whose clocks R414 counts. -/
theorem transferIssue : Obligations.TransferIssue := by
  rintro s _ rfl hxfer hbusy hready hpos hlen hrange
  have haccepted : ∀ k, exec (issueOf k) s = .next (startTransfer k s) := fun k =>
    exec_of_accepted ((issueError_eq_none_iff k s).2 ⟨hxfer, hbusy, fun _ => ⟨hready, hpos, hlen, hrange⟩⟩)
  refine ⟨(haccepted .write).trans (congrArg Host.Outcome.next ?write),
    (haccepted .read).trans (congrArg Host.Outcome.next ?read)⟩
  case write =>
    have hclocks : frameClocks s.cfg (.qwrite s.arb.fmAddr (bufBytes s.sched.draws s)) = 8 + 2 * s.arb.fmLen.toNat := by
      simp [frameClocks]
    rw [startTransfer_of_frame rfl hclocks, bufBytes_eq hlen]
    rfl
  case read => exact startTransfer_of_frame rfl rfl

/-! ### The completion of a command (R406 to R408, R410) -/

/-- How a transaction ends once its frames have reached the device: the wires are idle, XFER is 0 and CMD_DONE is raised
(R410). -/
def transferEnded (s : State) : State :=
  { s with
    arb := { s.arb with xfer := false },
    irq := irqAfter 0x080 s,
    trace := { s.trace with frames := framesEnded s } }

theorem exec_evXferDone {s : State} (hxfer : s.arb.xfer = true) :
    exec .evXferDone s = .next (transferEnded (completeKind s)) :=
  congrArg Host.Outcome.next (if_pos hxfer)

theorem pins_transferEnded (s : State) : pinFmCsN (transferEnded s) = true ∧ pinFmSioOe (transferEnded s) = 0 :=
  have hwire : currentWire (transferEnded s) = none := currentWire_releaseWires s
  ⟨(pins_of_no_wire hwire).1, (pins_of_no_wire hwire).2.2⟩

theorem completeKind_of_init {s : State} (hkind : s.arb.kind = .init) :
    completeKind s = { s with
      arb := { s.arb with mode := .quad, ready := true }, dev := { s.dev with mode := .quad } } := by
  simp [completeKind, hkind, completeInit, devEnter_devRstio]

theorem completeKind_of_write {s : State} (hkind : s.arb.kind = .write) (hstart : s.sched.xferMode = .quad) :
    completeKind s = { s with
      arb := { s.arb with bufPtr := 0 },
      dev := { s.dev with
        mem := memWriteBytes s.cfg.fmBytes s.dev.mem s.arb.fmAddr.toNat (bufBytes s.sched.xferDraw s) } } := by
  simp [completeKind, hkind, completeWrite, hstart, devWrite_of_quad]

/-- The bytes that come in in the frame of a READ (R408). -/
def readBytes (s : State) : List Byte :=
  bytesIn s s.sched.xferMode .quad s.sched.xferDraw s.arb.fmAddr.toNat s.arb.fmLen.toNat

theorem completeKind_of_read {s : State} (hkind : s.arb.kind = .read) (hstart : s.sched.xferMode = .quad) :
    completeKind s = { s with
      arb := { s.arb with buf := memWriteBytes s.cfg.bufDepth s.arb.buf 0 (readBytes s), bufPtr := 0 },
      dev := { s.dev with out := readBytes s } } := by
  simp [completeKind, hkind, completeRead, readBytes, hstart, devRead_of_same]

/-- A WRITE whose frame started in another mode scrambles the device (R413). -/
theorem completeKind_of_write_lost {s : State} (hkind : s.arb.kind = .write) (hstart : s.sched.xferMode ≠ .quad) :
    completeKind s = { s with
      arb := { s.arb with bufPtr := 0 },
      dev := { s.dev with mem := [], mode := Config.drawMode s.sched.draws },
      sched := { s.sched with draws := s.sched.draws + 1 } } := by
  simp [completeKind, hkind, completeWrite, devWrite_of_ne hstart, devScramble, nextDraw]

/-- A READ whose frame started in another mode scrambles the device, after its bytes have come in (R413). -/
theorem completeKind_of_read_lost {s : State} (hkind : s.arb.kind = .read) (hstart : s.sched.xferMode ≠ .quad) :
    completeKind s = { s with
      arb := { s.arb with buf := memWriteBytes s.cfg.bufDepth s.arb.buf 0 (readBytes s), bufPtr := 0 },
      dev := { s.dev with mem := [], mode := Config.drawMode s.sched.draws, out := readBytes s },
      sched := { s.sched with draws := s.sched.draws + 1 } } := by
  simp [completeKind, hkind, completeRead, readBytes, devRead_of_ne hstart, devScramble, nextDraw]

/-- The buffer after a READ: the bytes that came in, then what was there (R408). -/
theorem memRead_readBytes {s : State} (hlen : s.arb.fmLen.toNat ≤ s.cfg.bufDepth) (a : Nat) :
    memRead (memWriteBytes s.cfg.bufDepth s.arb.buf 0 (readBytes s)) a =
      if a < s.arb.fmLen.toNat then (readBytes s)[a]? else memRead s.arb.buf a := by
  have hcount : (readBytes s).length = s.arb.fmLen.toNat := bytesIn_length ..
  have hfit : 0 + (readBytes s).length ≤ s.cfg.bufDepth := by rwa [hcount, Nat.zero_add]
  simpa [hcount] using memRead_memWriteBytes s.arb.buf hfit a

/-- Settles O26: after RSTIO_ANY the device takes EQIO_S in whatever mode it was. -/
theorem initCompletes : Obligations.InitCompletes := by
  refine ⟨fun s hxfer hkind => ?_, fun s hidle => congrArg Host.Outcome.next (if_neg (by simp [hidle]))⟩
  have hdone := exec_evXferDone hxfer
  rw [completeKind_of_init hkind] at hdone
  exact ⟨_, hdone, rfl, pins_transferEnded _⟩

/-- Settles O27: the range lies inside the memory, so no address of it wraps. -/
theorem writeCompletes : Obligations.WriteCompletes := by
  intro s hxfer hkind hstart hlen hrange
  have hdone := exec_evXferDone hxfer
  rw [completeKind_of_write hkind hstart] at hdone
  have hread := memRead_memWriteBytes (data := bufBytes s.sched.xferDraw s) s.dev.mem (by simpa using hrange)
  refine ⟨_, hdone, rfl, fun i hi => ?written, fun a ha => ?kept, pins_transferEnded _⟩
  case written =>
    refine (hread _).trans ?_
    rw [if_pos (by simpa using hi), Nat.add_sub_cancel_left, bufBytes_eq hlen, List.getElem?_map,
      List.getElem?_range hi]
    rfl
  case kept => exact (hread a).trans (if_neg (by rw [bufBytes_length]; omega))

/-- Settles O28: what comes in fills the buffer in either mode; in another mode than quad the device is lost. -/
theorem readCompletes : Obligations.ReadCompletes := by
  refine ⟨fun s hxfer hkind hstart hlen hrange => ?quad, fun s hxfer hkind hstart hlen => ?other⟩
  case quad =>
    have hdone := exec_evXferDone hxfer
    rw [completeKind_of_read hkind hstart] at hdone
    have hbuf := memRead_readBytes hlen
    have hbytes : readBytes s = bytesIn s .quad .quad s.sched.xferDraw s.arb.fmAddr.toNat s.arb.fmLen.toNat := by
      rw [readBytes, hstart]
    have hread : ∀ i < s.arb.fmLen.toNat, memRead (memWriteBytes s.cfg.bufDepth s.arb.buf 0 (readBytes s)) i =
        (bytesIn s .quad .quad s.sched.xferDraw s.arb.fmAddr.toNat s.arb.fmLen.toNat)[i]? := fun i hi => by
      rw [hbuf, if_pos hi, hbytes]
    refine ⟨_, hdone, rfl, fun hsio i hi => ?device, hread, fun a ha => (hbuf a).trans (if_neg (Nat.not_lt.2 ha)),
      pins_transferEnded _⟩
    rw [← Nat.mod_eq_of_lt (show s.arb.fmAddr.toNat + i < s.cfg.fmBytes by omega)]
    exact (hread i hi).trans (bytesIn_of_device hsio _ _ _ hi)
  case other =>
    have hdone := exec_evXferDone hxfer
    cases hwhich : s.arb.kind with
    | init => exact absurd hwhich hkind
    | write =>
      rw [completeKind_of_write_lost hwhich hstart] at hdone
      exact ⟨_, hdone, rfl, memRead_nil, fun _ => rfl, nofun, pins_transferEnded _⟩
    | read =>
      rw [completeKind_of_read_lost hwhich hstart] at hdone
      exact ⟨_, hdone, rfl, memRead_nil, nofun, fun _ => memRead_readBytes hlen, pins_transferEnded _⟩

end Sys2Proof.Machine
end

section
/-! PROOFS. The frame-memory invariant (spec/43_frame_memory.md R400 to R403, R413): what starts a transaction, and that
the device follows FM_MODE. -/

namespace Sys2Proof.Machine

/-! ### The mode in which the frame of a transaction started (R402, R413)

Nothing but the issue of a command and a reset writes `xferMode`. -/

@[simp] theorem devEnter_xferMode (m : DevMode) (s : State) :
    (devEnter m s).sched.xferMode = s.sched.xferMode := by unfold devEnter; split <;> rfl

@[simp] theorem devWrite_xferMode (start : DevMode) (a : FmAddr) (data : List Byte) (s : State) :
    (devWrite start a data s).sched.xferMode = s.sched.xferMode := by unfold devWrite; split <;> rfl

@[simp] theorem devRead_xferMode (start m : DevMode) (k : Nat) (a : FmAddr) (n : Nat) (s : State) :
    (devRead start m k a n s).sched.xferMode = s.sched.xferMode := by unfold devRead; dsimp only; split <;> rfl

@[simp] theorem nextDraw_xferMode (s : State) : (nextDraw s).sched.xferMode = s.sched.xferMode := rfl

@[simp] theorem emitRow_xferMode (s : State) : (emitRow s).sched.xferMode = s.sched.xferMode :=
  devRead_xferMode ..

@[simp] theorem quadToDual_sched (s : State) : (quadToDual s).sched = s.sched := by rw [quadToDual_eq]

@[simp] theorem teardown_sched (switched : Bool) (s : State) : (teardown switched s).sched = s.sched := by
  cases switched with
  | false => rw [teardown_false_eq]
  | true => rw [teardown_true_eq]

@[simp] theorem abortTeardown_sched (s : State) : (abortTeardown s).sched = s.sched := by
  rw [(abortTeardown_spec s : abortTeardown s = _)]

@[simp] theorem zoneStep_xferMode (z : Zone) (s : State) :
    (zoneStep z s).sched.xferMode = s.sched.xferMode := by
  cases z with
  | preroll | teardown => simp [zoneStep]
  | setup => rcases switchStep_cases s with ⟨_, heq⟩ | ⟨_, _, heq⟩ | ⟨_, _, heq⟩ <;> simp [zoneStep, heq]
  | modeswitch | active => rcases activeStep_cases s with ⟨_, heq⟩ | ⟨_, heq⟩ <;> simp [zoneStep, heq]

@[simp] theorem loeStepIn_xferMode (z : Zone) (s : State) :
    (loeStepIn z s).sched.xferMode = s.sched.xferMode := by
  rcases loeStepIn_cases z s with ⟨_, heq⟩ | ⟨_, _, heq⟩ | ⟨_, _, heq⟩ <;> simp [heq]

@[simp] theorem lineEvent_xferMode (s : State) : (lineEvent s).sched.xferMode = s.sched.xferMode := by
  simp [lineEvent, loeStep]

@[simp] theorem fieldStart_sched (s : State) : (fieldStart s).sched = s.sched := by
  rw [fieldStart_eq]
  exact tornDown_frame (f := State.sched) (by simp)

@[simp] theorem verticalSync_sched (kind : SyncKind) (x : Bool) (s : State) :
    (verticalSync kind x s).sched = s.sched := by
  cases kind <;> simp [verticalSync]

@[simp] theorem firstGenLine_xferMode (s : State) : (firstGenLine s).sched.xferMode = s.sched.xferMode := by
  simp [firstGenLine]

@[simp] theorem timeoutSwitch_xferMode (s : State) : (timeoutSwitch s).sched.xferMode = s.sched.xferMode := by
  simp [timeoutSwitch]

@[simp] theorem restartGenerator_xferMode (s : State) :
    (restartGenerator s).sched.xferMode = s.sched.xferMode := by
  simp [restartGenerator]

@[simp] theorem refTickEvent_xferMode (s : State) : (refTickEvent s).sched.xferMode = s.sched.xferMode := by
  unfold refTickEvent
  dsimp only
  split
  · split <;> simp
  · rfl

@[simp] theorem genLineEvent_xferMode (s : State) : (genLineEvent s).sched.xferMode = s.sched.xferMode := by
  unfold genLineEvent
  dsimp only
  split
  · simp only [syncPulses_sched, lineEvent_xferMode]
    split
    · simp
    · split <;> simp
  · rfl

@[simp] theorem csyncEvent_xferMode (s : State) : (csyncEvent s).sched.xferMode = s.sched.xferMode := by
  unfold csyncEvent
  dsimp only
  repeat' split
  all_goals simp

@[simp] theorem vsyncEvent_sched (s : State) : (vsyncEvent s).sched = s.sched := by
  unfold vsyncEvent
  split <;> simp

@[simp] theorem matchPattern_sched (s : State) : (matchPattern s).sched = s.sched := by
  unfold matchPattern
  dsimp only
  repeat' split
  all_goals simp

@[simp] theorem acceptedEdge_xferMode (delta : Nat) (s : State) :
    (acceptedEdge delta s).sched.xferMode = s.sched.xferMode := by
  unfold acceptedEdge
  repeat' split
  all_goals simp

@[simp] theorem cmpEvent_xferMode (s : State) : (cmpEvent s).sched.xferMode = s.sched.xferMode := by
  unfold cmpEvent
  dsimp only
  repeat' split
  all_goals simp

@[simp] theorem disableEffects_sched (s : State) : (disableEffects s).sched = s.sched := by
  unfold disableEffects
  dsimp only
  split <;> simp

@[simp] theorem enableEffects_xferMode (s : State) : (enableEffects s).sched.xferMode = s.sched.xferMode := by
  unfold enableEffects
  dsimp only
  split <;> simp

@[simp] theorem enableChange_xferMode (old : Ctrl) (s : State) :
    (enableChange old s).sched.xferMode = s.sched.xferMode := by
  unfold enableChange
  repeat' split
  all_goals simp

@[simp] theorem writeCtrl_xferMode (v : Word) (s : State) : (writeCtrl v s).sched.xferMode = s.sched.xferMode := by
  unfold writeCtrl
  rw [enableChange_xferMode]
  split <;> rfl

/-! ### What starts a transaction (R401, R403) -/

theorem zoneStep_arb (z : Zone) (s : State) : ∃ m, (zoneStep z s).arb = { s.arb with mode := m } := by
  cases z with
  | preroll => exact ⟨_, prerollStep_arb s⟩
  | setup =>
    rcases switchStep_cases s with ⟨_, heq⟩ | ⟨_, _, heq⟩ | ⟨_, _, heq⟩
    · exact ⟨_, heq ▸ teardown_arb false s⟩
    · exact ⟨_, congrArg State.arb heq⟩
    · exact ⟨_, (congrArg State.arb heq).trans (quadToDual_arb s)⟩
  | modeswitch | active =>
    rcases activeStep_cases s with ⟨_, heq⟩ | ⟨_, heq⟩
    · exact ⟨_, heq ▸ teardown_arb true s⟩
    · exact ⟨_, (congrArg State.arb heq).trans (emitRow_arb s)⟩
  | teardown => exact ⟨_, rfl⟩

theorem loeStepIn_arb (z : Zone) (s : State) : ∃ m, (loeStepIn z s).arb = { s.arb with mode := m } := by
  rcases loeStepIn_cases z s with ⟨_, heq⟩ | ⟨_, _, heq⟩ | ⟨_, _, heq⟩
  · exact ⟨_, congrArg State.arb heq⟩
  · rw [heq, ← cutStream_arb true s]
    exact zoneStep_arb z _
  · exact heq ▸ zoneStep_arb z s

/-- Along the steps of the sync side a transaction goes on as it is: of the arbiter only FM_MODE is written. -/
theorem SyncSteps.arb_eq {s t : State} (h : SyncSteps s t) : ∃ m, t.arb = { s.arb with mode := m } := by
  induction h with
  | same hsame => exact ⟨_, hsame.arb⟩
  | line s => exact loeStepIn_arb _ _
  | field s =>
    rw [fieldStart_eq]
    unfold tornDown
    split
    · exact ⟨_, abortTeardown_arb s⟩
    · exact ⟨_, rfl⟩
  | abort s => exact ⟨_, abortTeardown_arb s⟩
  | trans _ _ ihst ihtu =>
    obtain ⟨_, hst⟩ := ihst
    obtain ⟨m, htu⟩ := ihtu
    exact ⟨m, by rw [htu, hst]⟩

/-- A transaction that is in progress in `t` is the one in progress in `s`, of the same kind and start. -/
def TransferKept (s t : State) : Prop :=
  t.arb.xfer = true → s.arb.xfer = true ∧ t.arb.kind = s.arb.kind ∧ t.sched.xferMode = s.sched.xferMode

namespace TransferKept

theorem of_frame {s t : State} (hxfer : t.arb.xfer = s.arb.xfer := by simp) (hkind : t.arb.kind = s.arb.kind := by simp)
    (hmode : t.sched.xferMode = s.sched.xferMode := by simp) : TransferKept s t :=
  fun h => ⟨hxfer ▸ h, hkind, hmode⟩

theorem of_idle {s t : State} (h : t.arb.xfer = false) : TransferKept s t := fun ht => by simp [h] at ht

theorem refl (s : State) : TransferKept s s := .of_frame rfl rfl rfl

theorem of_syncSteps {s t : State} (h : SyncSteps s t) (hmode : t.sched.xferMode = s.sched.xferMode := by simp) :
    TransferKept s t := by
  obtain ⟨_, harb⟩ := h.arb_eq
  exact .of_frame (by rw [harb]) (by rw [harb]) hmode

theorem unlessXfer {s : State} {a : Arbiter} (hxfer : a.xfer = s.arb.xfer) (hkind : a.kind = s.arb.kind) :
    TransferKept s (unlessXfer a s) := by
  unfold Machine.unlessXfer
  split
  · exact refl s
  · exact .of_frame hxfer hkind rfl

theorem readReg (r : Reg) (s : State) : TransferKept s (readReg r s) := by
  rcases readReg_cases r s with ⟨a, v, heq⟩ | ⟨v, heq⟩
  · exact heq ▸ .of_frame
  · exact heq ▸ .of_frame

theorem xferDoneEvent (s : State) : TransferKept s (xferDoneEvent s) := by
  unfold Machine.xferDoneEvent
  split
  · exact .of_idle rfl
  · exact refl s

end TransferKept

/-- From `s` to `t` a command has been issued: R403's checks let it pass. -/
def Issued (s t : State) : Prop := ∃ k, issueError k s = none ∧ t = startTransfer k s

theorem fmCommand_transfer (op : BitVec 4) (s : State) :
    TransferKept s (fmCommand op s) ∨ Issued s (fmCommand op s) := by
  rcases fmCommand_cases op s with heq | ⟨k, heq⟩ | heq
  · exact .inl (heq ▸ .of_frame rfl rfl rfl)
  · rcases issueCommand_cases k s with ⟨code, _, hk⟩ | ⟨hok, hk⟩
    · exact .inl (heq ▸ hk ▸ .of_frame)
    · exact .inr ⟨k, hok, heq.trans hk⟩
  · exact .inl (heq ▸ .of_frame)

theorem writeReg_transfer (r : Reg) (v : Word) (s : State) :
    TransferKept s (writeReg r v s) ∨ Issued s (writeReg r v s) := by
  cases r with
  | ctrl => exact .inl (.of_syncSteps (.writeCtrl v s) (writeCtrl_xferMode v s))
  | fmAddrLo | fmAddrHi | fmLen | fmWdata | fmBufptr => exact .inl (.unlessXfer rfl rfl)
  | fmCmd => exact fmCommand_transfer _ s
  | _ => exact .inl (.of_frame rfl rfl rfl)

/-- Only a command that R403 lets pass starts a transaction, whatever operation runs. -/
theorem Ran.transfer {i : Instr} {s t : State} (h : Ran s i t) : TransferKept s t ∨ Issued s t := by
  cases h with
  | read r => exact .inl (.readReg r s)
  | write r v => exact writeReg_transfer r v s
  | reserved write a =>
    exact .inl (reservedAccess_rule write a (.refl s) (.of_frame rfl rfl rfl))
  | command op => exact fmCommand_transfer op s
  | qwrite | qread | dread | rstio | edio | eqio | pixStart | streamEnd => exact .inl .of_frame
  | csync => exact .inl (.of_syncSteps (.csyncEvent s))
  | vsync => exact .inl (.of_syncSteps (.vsyncEvent s))
  | cmp => exact .inl (.of_syncSteps (.cmpEvent s))
  | refTick => exact .inl (.of_syncSteps (.refTickEvent s))
  | genLine => exact .inl (.of_syncSteps (.genLineEvent s))
  | reset => exact .inl (.of_idle rfl)
  | hostWrite a v =>
    exact hostWrite_rule (P := fun u => TransferKept s u ∨ Issued s u) a (.inl (.refl s))
      fun r => writeReg_transfer r v s
  | hostRead a => exact .inl (hostRead_rule a (.of_frame rfl rfl rfl) fun r => .readReg r s)
  | xferDone => exact .inl (.xferDoneEvent s)
  | line => exact .inl (.of_syncSteps (.line s))
  | verticalSync kind x => exact .inl (.of_syncSteps (.verticalSync kind x s))
  | timeout => exact .inl (.of_syncSteps (.timeoutSwitch s))
  | zone z =>
    obtain ⟨_, harb⟩ := loeStepIn_arb z s
    exact .inl (.of_frame (by rw [harb]) (by rw [harb]))
  | idle => exact .inl (.refl s)

/-- Settles O25: XFER rises only where a command has been issued, and that is where its checks pass. -/
theorem acceptanceIsChecked : Obligations.AcceptanceIsChecked := by
  intro i s t hexec hidle hxfer
  rcases (ran_of_exec hexec).transfer with hkept | ⟨k, hok, rfl⟩
  · simp [(hkept hxfer).1] at hidle
  · obtain ⟨_, hbusy, hchecks⟩ := (issueError_eq_none_iff k s).1 hok
    simpa [hbusy] using hchecks

/-! ### The mode of the device (R46, R413) -/

/-- The device is in the mode that FM_MODE names, where it names one. -/
structure ModesAgree (s : State) : Prop where
  quad : s.arb.mode = .quad → s.dev.mode = .quad
  dual : s.arb.mode = .dual → s.dev.mode = .dual

namespace ModesAgree

theorem of_frame {s t : State} (h : ModesAgree s) (harb : t.arb.mode = s.arb.mode := by simp)
    (hdev : t.dev.mode = s.dev.mode := by simp) : ModesAgree t :=
  ⟨fun hm => hdev.trans (h.quad (harb.symm.trans hm)), fun hm => hdev.trans (h.dual (harb.symm.trans hm))⟩

theorem of_quad {t : State} (harb : t.arb.mode = .quad := by simp) (hdev : t.dev.mode = .quad := by simp) :
    ModesAgree t :=
  ⟨fun _ => hdev, fun hm => nomatch harb.symm.trans hm⟩

theorem of_dual {t : State} (harb : t.arb.mode = .dual := by simp) (hdev : t.dev.mode = .dual := by simp) :
    ModesAgree t :=
  ⟨fun hm => (nomatch harb.symm.trans hm), fun _ => hdev⟩

theorem teardown {s : State} (h : ModesAgree s) (switched : Bool) : ModesAgree (teardown switched s) := by
  cases switched with
  | false => exact (teardown_false_eq s) ▸ h.of_frame
  | true => exact (teardown_true_eq s) ▸ of_quad

theorem switchStep {s : State} (h : ModesAgree s) : ModesAgree (switchStep s) := by
  rcases switchStep_cases s with ⟨_, heq⟩ | ⟨_, _, heq⟩ | ⟨_, _, heq⟩
  · exact heq ▸ h.teardown false
  · exact heq.symm ▸ h
  · exact heq ▸ of_dual

/-- A row is read in dual mode, which a DREAD leaves as it is (R413). -/
theorem activeStep {s : State} (h : ModesAgree s) (hdual : s.arb.mode = .dual) : ModesAgree (activeStep s) := by
  rcases activeStep_cases s with ⟨_, heq⟩ | ⟨hline, heq⟩
  · exact heq ▸ h.teardown true
  · have hdev := congrArg Device.mode (activeStep_rowSent hline).dev_eq
    exact of_dual (by simp [heq, hdual]) (hdev.trans (if_pos (h.dual hdual)))

theorem zoneStep {s : State} (h : ModesAgree s) (hbus : BusInv s) {z : Zone} (hzone : s.loe.zone = z) :
    ModesAgree (zoneStep z s) := by
  cases z with
  | preroll => exact h.of_frame (t := prerollStep s)
  | setup => exact h.switchStep
  | modeswitch => exact h.activeStep (hbus.dualIff.2 (.inl hzone))
  | active => exact h.activeStep (hbus.dualIff.2 (.inr hzone))
  | teardown => exact h

theorem lineEvent {s : State} (h : ModesAgree s) (hbus : BusInv s) : ModesAgree (lineEvent s) := by
  have hline : BusInv { s with cnt := { s.cnt with line := s.cnt.line + 1 } } := hbus.of_frame
  have hmodes : ModesAgree { s with cnt := { s.cnt with line := s.cnt.line + 1 } } := h.of_frame
  unfold Machine.lineEvent loeStep
  rcases loeStepIn_cases s.loe.zone { s with cnt := { s.cnt with line := s.cnt.line + 1 } } with
    ⟨_, heq⟩ | ⟨_, _, heq⟩ | ⟨_, _, heq⟩
  · exact heq.symm ▸ hmodes
  · exact heq ▸ (hmodes.of_frame (t := Machine.cutStream true _)).zoneStep (hline.cutStream true) (by simp)
  · exact heq ▸ hmodes.zoneStep hline rfl

theorem abortTeardown {s : State} (h : ModesAgree s) : ModesAgree (abortTeardown s) := by
  rw [(abortTeardown_spec s : Machine.abortTeardown s = _)]
  by_cases hdual : s.arb.mode = .dual
  · exact of_quad (if_pos hdual) (if_pos hdual)
  · exact h.of_frame (if_neg hdual) (if_neg hdual)

theorem fieldStart {s : State} (h : ModesAgree s) : ModesAgree (fieldStart s) := by
  have htorn : ModesAgree (tornDown s) := by
    unfold tornDown
    split
    · exact h.abortTeardown
    · exact h
  rw [fieldStart_eq]
  exact htorn.of_frame rfl rfl

theorem syncSteps {s t : State} (h : ModesAgree s) (hbus : BusInv s) (hst : SyncSteps s t) : ModesAgree t := by
  induction hst with
  | same hsame => exact h.of_frame (by rw [hsame.arb]) (by rw [hsame.dev])
  | line => exact h.lineEvent hbus
  | field => exact h.fieldStart
  | abort => exact h.abortTeardown
  | trans hst _ ihst ihtu => exact ihtu (ihst h hbus) (hbus.syncSteps hst)

/-- The issue of a command, or its refusal, touches neither mode. -/
theorem fmCommand {s : State} (h : ModesAgree s) (op : BitVec 4) : ModesAgree (fmCommand op s) := by
  rcases fmCommand_cases op s with heq | ⟨k, heq⟩ | heq
  · exact heq ▸ h.of_frame rfl rfl
  · rcases issueCommand_cases k s with ⟨code, _, hk⟩ | ⟨_, hk⟩
    · exact heq ▸ hk ▸ h.of_frame
    · exact heq ▸ hk ▸ h.of_frame
  · exact heq ▸ h.of_frame

theorem unlessXfer {s : State} (h : ModesAgree s) {a : Arbiter} (hmode : a.mode = s.arb.mode) :
    ModesAgree (unlessXfer a s) := by
  unfold Machine.unlessXfer
  split
  · exact h
  · exact h.of_frame hmode rfl

theorem writeReg {s : State} (h : ModesAgree s) (hbus : BusInv s) (r : Reg) (v : Word) :
    ModesAgree (writeReg r v s) := by
  rcases writeReg_cases r v s with hsync | ⟨addr, len, heq⟩ | heq | heq | ⟨op, heq⟩
  · exact h.syncSteps hbus hsync
  · exact heq ▸ h.unlessXfer rfl
  · exact heq ▸ h.unlessXfer rfl
  · exact heq ▸ h.unlessXfer rfl
  · exact heq ▸ h.fmCommand op

theorem readReg {s : State} (h : ModesAgree s) (r : Reg) : ModesAgree (readReg r s) := by
  rcases readReg_cases r s with ⟨a, v, heq⟩ | ⟨v, heq⟩
  · exact heq ▸ h.of_frame
  · exact heq ▸ h.of_frame

/-- The frame of a WRITE or READ that started in quad mode leaves the device there; INIT brings it there (R402). -/
theorem completeKind {s : State} (h : ModesAgree s) (hstart : s.arb.kind ≠ .init → s.sched.xferMode = .quad) :
    ModesAgree (completeKind s) := by
  cases hkind : s.arb.kind with
  | init => exact completeKind_of_init hkind ▸ of_quad
  | write => exact completeKind_of_write hkind (hstart (by simp [hkind])) ▸ h.of_frame
  | read => exact completeKind_of_read hkind (hstart (by simp [hkind])) ▸ h.of_frame

theorem xferDoneEvent {s : State} (h : ModesAgree s)
    (hstart : s.arb.xfer = true → s.arb.kind ≠ .init → s.sched.xferMode = .quad) :
    ModesAgree (xferDoneEvent s) := by
  unfold Machine.xferDoneEvent
  split
  · exact (h.completeKind (hstart ‹_›)).of_frame
  · exact h

end ModesAgree

/-! ### A step with nothing outside the block on the wires (R413) -/

/-- An operation comes in at the port of its own encoding. -/
theorem encode_port_of_decode {c : CmdBytes} {f : Fetch} {i : Instr} (h : decode c f = .ok i) :
    (encode c i).port = f.port := by
  obtain ⟨port, word, tail⟩ := f
  cases port with
  | hostreg =>
    obtain ⟨w, a, d, haccess⟩ := exists_hostWord (word.extractLsb' 0 25)
    obtain rfl : decodeHost (hostWord w a d) = i := haccess ▸ Except.ok.inj h
    cases ha : regOf a with
    | none => rw [(decodeHost_of_reserved ha w d).encode_eq c, hostFetch]
    | some r =>
      rw [decodeHost_of_reg ha]
      cases w with
      | true => rw [if_pos rfl, encode_writeOf, hostFetch]
      | false => rw [if_neg nofun, encode_readOf, hostFetch]
  | fmcmd => rw [← Except.ok.inj h, encode_decodeFmCmd, fmCmdFetch]
  | zone => rw [← Except.ok.inj h, encode_decodeZone, zoneFetch]
  | wire mode =>
    replace h : decodeWire c mode word tail = .ok i := h
    unfold decodeWire at h
    dsimp only at h
    repeat' split at h
    all_goals cases h
    all_goals rfl
  | event =>
    replace h : decodeEvent word = .ok i := h
    unfold decodeEvent at h
    split at h
    all_goals cases h
    all_goals rfl

/-- No frame from outside the block is still to come. -/
def Undisturbed (s : State) : Prop := ∀ q ∈ s.inputs, ∀ mode word tail, q.drive ≠ .frame mode word tail

theorem driveFetch_port_ne_wire {c : Cfg} {q : Drive} {f : Fetch} (hq : ∀ mode word tail, q ≠ .frame mode word tail)
    (h : driveFetch c q = some f) (mode : WireMode) : f.port ≠ .wire mode := by
  have hedge : ∀ {e rise code}, edgeFetch e rise code = some f → f.port ≠ .wire mode := by
    intro e rise code hf
    unfold edgeFetch at hf
    split at hf
    · exact Option.some.inj hf ▸ nofun
    · nomatch hf
  cases q with
  | rst | host => exact Option.some.inj h ▸ nofun
  | vsync | csync | cmp => exact hedge h
  | frame => exact absurd rfl (hq _ _ _)
  | sio => nomatch h

theorem inputDues_port_ne_wire {s : State} {d : Due} {f : Fetch} {l : List Stimulus} {i : Nat}
    (hl : ∀ q ∈ l, ∀ mode word tail, q.drive ≠ .frame mode word tail) (hd : d ∈ inputDues s i l)
    (hf : d.fetch = some f) (mode : WireMode) : f.port ≠ .wire mode := by
  induction l generalizing i with
  | nil => nomatch hd
  | cons q rest ih =>
    rcases List.mem_cons.1 hd with rfl | hd
    · exact driveFetch_port_ne_wire (hl q List.mem_cons_self) hf mode
    · exact ih (fun p hp => hl p (List.mem_cons_of_mem _ hp)) hd

theorem timerDue_port_ne_wire {running : Bool} {time rank : Nat} {code : BitVec 5} {d : Due} {f : Fetch}
    (hd : d ∈ timerDue running time rank code) (hf : d.fetch = some f) (mode : WireMode) : f.port ≠ .wire mode := by
  unfold timerDue at hd
  split at hd
  · obtain rfl := List.mem_singleton.1 hd
    exact Option.some.inj hf ▸ nofun
  · nomatch hd

/-- Without frames from outside nothing arrives on the wires: the block's own frames are no events. -/
theorem nextDue_port_ne_wire {s : State} (hs : Undisturbed s) {d : Due} {f : Fetch} (hd : nextDue s = some d)
    (hf : d.fetch = some f) (mode : WireMode) : f.port ≠ .wire mode := by
  rcases List.mem_append.1 (firstDue_mem _ _ hd) with htimer | hinput
  · simp only [timerDues, List.mem_append] at htimer
    rcases htimer with (((h | h) | h) | h) | h
    all_goals exact timerDue_port_ne_wire h hf mode
  · exact inputDues_port_ne_wire hs hinput hf mode

/-- With no word held, a step that answers has passed over a stimulus or has run the operation that what was due decodes
to (R9). -/
theorem step_due_cases {s t : State} (hheld : s.held = none) (h : step s = .next t) :
    (∃ d, t = setSource d.source (advance d s)) ∨
    ∃ d f i, nextDue s = some d ∧ d.fetch = some f ∧ decode s.cfg.cmds f = .ok i ∧
      exec i (advance d s) = .next t := by
  cases hdue : nextDue s with
  | none => nomatch (step_of_nothing_due hheld hdue).symm.trans h
  | some d =>
    cases hf : d.fetch with
    | none => exact .inl ⟨d, Host.Outcome.next.inj (h.symm.trans (step_of_no_event hheld hdue hf))⟩
    | some f =>
      rw [step_of_due hheld hdue hf] at h
      cases hi : decode (advance d s).cfg.cmds f with
      | ok i => exact .inr ⟨d, f, i, rfl, hf, hi, (runFetch_of_decode hi).symm.trans h⟩
      | error e => simp [runFetch, hi] at h

/-! ### What is left of the stimuli -/

@[simp] theorem enableChange_inputs (old : Ctrl) (s : State) : (enableChange old s).inputs = s.inputs := by
  unfold enableChange
  repeat' split
  all_goals simp

@[simp] theorem writeCtrl_inputs (v : Word) (s : State) : (writeCtrl v s).inputs = s.inputs := by
  unfold writeCtrl
  rw [enableChange_inputs]
  split <;> rfl

@[simp] theorem unlessXfer_inputs (a : Arbiter) (s : State) : (unlessXfer a s).inputs = s.inputs := by
  unfold unlessXfer
  split <;> rfl

@[simp] theorem writeReg_inputs (r : Reg) (v : Word) (s : State) : (writeReg r v s).inputs = s.inputs := by
  cases r with
  | ctrl => exact writeCtrl_inputs v s
  | fmAddrLo | fmAddrHi | fmLen | fmWdata | fmBufptr => exact unlessXfer_inputs _ s
  | fmCmd => exact fmCommand_inputs _ s
  | _ => rfl

/-- No operation adds a stimulus; a reset discards those of its cycle (R610, R700). -/
theorem Ran.inputs_subset {i : Instr} {s t : State} (h : Ran s i t) : t.inputs ⊆ s.inputs := by
  cases h with
  | reset => exact List.filter_subset_self _
  | reserved write a =>
    exact reservedAccess_rule (P := fun u => u.inputs ⊆ s.inputs) write a (List.Subset.refl _) (List.Subset.refl _)
  | hostWrite a v =>
    exact hostWrite_rule (P := fun u => u.inputs ⊆ s.inputs) a (List.Subset.refl _)
      fun r => writeReg_inputs r v s ▸ List.Subset.refl _
  | idle => exact List.Subset.refl _
  | _ => simp

theorem advance_inputs_subset (d : Due) (s : State) : (advance d s).inputs ⊆ s.inputs := by
  unfold advance
  dsimp only
  split
  · exact List.eraseIdx_subset
  · exact List.Subset.refl _

/-! ### Every step keeps the device (R402, R413) -/

/-- Whatever an event of a step has run keeps the modes together, unless it is a frame on the wires. -/
theorem Ran.modesAgree {i : Instr} {s t : State} {c : CmdBytes} (h : Ran s i t) (hi : nestedOnly i = false)
    (hwire : ∀ mode, (encode c i).port ≠ .wire mode) (hbus : BusInv s) (hs : ModesAgree s)
    (hstart : s.arb.xfer = true → s.arb.kind ≠ .init → s.sched.xferMode = .quad) : ModesAgree t := by
  cases h with
  | read r => exact hs.readReg r
  | write r v => exact hs.writeReg hbus r v
  | reserved write a => exact reservedAccess_rule write a hs hs.of_frame
  | command op => exact hs.fmCommand op
  | qwrite _ _ hrow | qread _ _ hrow | dread _ _ hrow | edio hrow | eqio hrow =>
    exact absurd (by rw [hrow]; rfl) (hwire _)
  | rstio hrow => rcases hrow with rfl | rfl | rfl <;> exact absurd rfl (hwire _)
  | csync => exact hs.syncSteps hbus (.csyncEvent s)
  | vsync => exact hs.syncSteps hbus (.vsyncEvent s)
  | cmp => exact hs.syncSteps hbus (.cmpEvent s)
  | refTick => exact hs.syncSteps hbus (.refTickEvent s)
  | genLine => exact hs.syncSteps hbus (.genLineEvent s)
  | reset => exact ⟨nofun, nofun⟩
  | hostWrite a v => exact hostWrite_rule a hs fun r => hs.writeReg hbus r v
  | hostRead a => exact hostRead_rule a hs.of_frame hs.readReg
  | xferDone => exact hs.xferDoneEvent hstart
  | pixStart | streamEnd => exact hs.of_frame
  | line => exact hs.lineEvent hbus
  | verticalSync kind x => exact hs.syncSteps hbus (.verticalSync kind x s)
  | timeout => exact hs.syncSteps hbus (.timeoutSwitch s)
  | zone z hz =>
    rw [hz, nestedOnly_zoneRow] at hi
    nomatch hi
  | idle => exact hs

namespace DeviceInv

theorem modesAgree {s : State} (h : DeviceInv s) : ModesAgree s := ⟨h.quadTracks, h.dualTracks⟩

/-- The invariant speaks of these parts of the state only; stimuli may be consumed. -/
theorem of_frame {s t : State} (h : DeviceInv s) (hinputs : t.inputs ⊆ s.inputs)
    (hheld : t.held = s.held := by rfl) (harb : t.arb = s.arb := by rfl) (hdev : t.dev.mode = s.dev.mode := by rfl)
    (hmode : t.sched.xferMode = s.sched.xferMode := by rfl) : DeviceInv t where
  nothingHeld := hheld ▸ h.nothingHeld
  undisturbed q hq := h.undisturbed q (hinputs hq)
  quadTracks := harb ▸ hdev ▸ h.quadTracks
  dualTracks := harb ▸ hdev ▸ h.dualTracks
  startQuad := harb ▸ hmode ▸ h.startQuad

theorem advance {s : State} (h : DeviceInv s) (d : Due) : DeviceInv (advance d s) :=
  h.of_frame (advance_inputs_subset d s)

/-- A WRITE or READ is issued on a ready device and an idle line output only, so in quad mode (R403, R46). -/
theorem issued_startQuad {s t : State} (h : DeviceInv s) (hbus : BusInv s) (hissued : Issued s t)
    (hkind : t.arb.kind ≠ .init) : t.sched.xferMode = .quad := by
  obtain ⟨k, hok, rfl⟩ := hissued
  obtain ⟨_, hbusy, hchecks⟩ := (issueError_eq_none_iff k s).1 hok
  have hready := (hchecks (by simpa using hkind)).1
  have hquad : s.arb.mode = .quad := by
    cases hmode : s.arb.mode with
    | quad => rfl
    | unknown => exact absurd hmode (hbus.readyKnown hready)
    | dual => exact absurd hmode (hbus.mode_ne_dual hbusy)
  simpa [startTransfer] using h.quadTracks hquad

end DeviceInv

theorem Ran.keepsDevice {i : Instr} {s t : State} {c : CmdBytes} (h : Ran s i t) (hi : nestedOnly i = false)
    (hwire : ∀ mode, (encode c i).port ≠ .wire mode) (hbus : BusInv s) (hs : DeviceInv s) : DeviceInv t where
  nothingHeld := (h.keepsBus hi hbus).nothingHeld
  undisturbed q hq := hs.undisturbed q (h.inputs_subset hq)
  quadTracks := (h.modesAgree hi hwire hbus hs.modesAgree hs.startQuad).quad
  dualTracks := (h.modesAgree hi hwire hbus hs.modesAgree hs.startQuad).dual
  startQuad hxfer hkind := by
    rcases h.transfer with hkept | hissued
    · obtain ⟨hbefore, hsame, hmode⟩ := hkept hxfer
      exact hmode.trans (hs.startQuad hbefore (hsame ▸ hkind))
    · exact hs.issued_startQuad hbus hissued hkind

/-- Settles O56: a step passes over a stimulus or runs an event or a host access, and no frame from outside. -/
theorem stepKeepsDevice : Obligations.StepKeepsDevice := by
  intro s t hbus hs hstep
  rcases step_due_cases hs.nothingHeld hstep with ⟨d, rfl⟩ | ⟨d, f, i, hdue, hf, hdec, hexec⟩
  · rw [setSource_eq]
    exact (hs.advance d).of_frame (List.Subset.refl _)
  · refine (ran_of_exec hexec).keepsDevice ((nextDue_arrives hdue hf).not_nested hdec) (c := s.cfg.cmds) ?_
      (hbus.advance d) (hs.advance d)
    rw [encode_port_of_decode hdec]
    exact nextDue_port_ne_wire hs.undisturbed hdue hf

end Sys2Proof.Machine
end

section
/-! PROOFS. The register file (spec/44_register_file.md R500 to R520): what CTRL and VSTAT writes do, and the reads and
writes of the status words, the interrupts, the transaction parameters, the buffer ports and the reserved addresses. -/

namespace Sys2Proof.Machine

/-! ### CTRL: its fields, and EN raised (R500, R218) -/

/-- `s` after a write of CTRL's fields, before a change of EN acts: a changed SYNC_MODE clears the decoder, the filter
and the lock (R500, R218). -/
def ctrlWritten (v : Word) (s : State) : State :=
  { s with
    ctrl := ctrlAfter v s,
    det := if (ctrlAfter v s).syncMode = s.ctrl.syncMode then s.det
      else { s.det with sr := 0, srCnt := 0, capValid := false, csValid := false },
    cnt := if (ctrlAfter v s).syncMode = s.ctrl.syncMode then s.cnt else { s.cnt with vlock := false } }

theorem writeCtrl_eq (v : Word) (s : State) : writeCtrl v s = enableChange s.ctrl (ctrlWritten v s) := by
  unfold writeCtrl ctrlWritten
  by_cases hmode : (ctrlAfter v s).syncMode = s.ctrl.syncMode
  · simp only [if_pos hmode]
  · simp only [if_neg hmode]
    rfl

theorem writeCtrl_of_kept {v : Word} {s : State} (h : v.getLsbD 0 = s.ctrl.enable) :
    writeCtrl v s = ctrlWritten v s :=
  (writeCtrl_eq v s).trans (if_pos h)

theorem writeCtrl_of_raised {v : Word} {s : State} (hold : s.ctrl.enable = false) (hnew : v.getLsbD 0 = true) :
    writeCtrl v s = enableEffects (ctrlWritten v s) := by
  have hen : (ctrlWritten v s).ctrl.enable = true := hnew
  simp [writeCtrl_eq, enableChange, hen, hold]

theorem writeCtrl_of_lowered {v : Word} {s : State} (hold : s.ctrl.enable = true) (hnew : v.getLsbD 0 = false) :
    writeCtrl v s = disableEffects (ctrlWritten v s) := by
  have hen : (ctrlWritten v s).ctrl.enable = false := hnew
  simp [writeCtrl_eq, enableChange, hen, hold]

/-- `s` with the reference timer loaded for its next tick (R31, R218). -/
def timerLoaded (s : State) : State := { s with gen := { s.gen with refNext := stampAfter s s.cfg.refPeriod } }

theorem enableEffects_of_external {s : State} (h : s.vstat.srcExt = true) : enableEffects s = timerLoaded s := if_pos h

theorem enableEffects_of_internal {s : State} (h : s.vstat.srcExt = false) :
    enableEffects s = restartGenerator (timerLoaded s) :=
  if_neg (by simp [h])

/-- Settles O11: the restart is an internal vertical sync, a line event and the line's pulses, one after another. -/
theorem controlWrite : Obligations.ControlWrite := by
  intro s u v m hm hu
  obtain rfl : m = (ctrlAfter v s).syncMode := hm
  obtain rfl : u = ctrlWritten v s := hu
  refine ⟨fun hkept => ?kept, fun hold hnew hext => ?external, fun hold hnew hint => ?internal⟩
  case kept => exact congrArg Host.Outcome.next (writeCtrl_of_kept hkept)
  case external =>
    exact congrArg Host.Outcome.next ((writeCtrl_of_raised hold hnew).trans (enableEffects_of_external hext))
  case internal =>
    have hrestart : writeCtrl v s = restartGenerator (timerLoaded (ctrlWritten v s)) :=
      (writeCtrl_of_raised hold hnew).trans (enableEffects_of_internal hint)
    exact ⟨_, _, _, rfl, rfl, congrArg Host.Outcome.next hrestart, rfl, syncPulses_linePulses _⟩

/-! ### CTRL: EN lowered (R218, R306) -/

/-- A zone that holds the bus is torn down, whatever OUT_EN is (R218, R306). -/
def busReleased (s : State) : State := if zoneBusy s.loe.zone then abortTeardown s else s

theorem busReleased_spec (s : State) :
    if holdsBus s.loe.zone then Aborted s (busReleased s) else busReleased s = s := by
  simp only [← zoneBusy_iff]
  split
  · rw [busReleased, if_pos ‹_›]
    exact abortTeardown_spec s
  · exact if_neg ‹_›

/-- The forced teardown neither reads nor writes what CTRL's fields and a SYNC_MODE change write. -/
theorem busReleased_update (c : Ctrl) (d : Detector) (n : Counters) (s : State) :
    busReleased { s with ctrl := c, det := d, cnt := n } = { busReleased s with ctrl := c, det := d, cnt := n } := by
  unfold busReleased
  split
  · rw [(abortTeardown_spec s : abortTeardown s = _)]
    exact abortTeardown_spec _
  · rfl

@[simp] theorem busReleased_gen (s : State) : (busReleased s).gen = s.gen := by
  unfold busReleased
  split <;> simp

theorem disableEffects_eq (s : State) :
    disableEffects s = syncOutHigh { busReleased (syncModeEffects s) with
      gen := { (busReleased (syncModeEffects s)).gen with running := false },
      ports := { (busReleased (syncModeEffects s)).ports with syncOe := false } } :=
  rfl

/-- Lowering EN clears what a change of SYNC_MODE clears, whether SYNC_MODE changed or not. -/
theorem syncModeEffects_ctrlWritten (v : Word) (s : State) :
    syncModeEffects (ctrlWritten v s) = { s with
      ctrl := ctrlAfter v s,
      det := { s.det with sr := 0, srCnt := 0, capValid := false, csValid := false },
      cnt := { s.cnt with vlock := false } } := by
  unfold syncModeEffects ctrlWritten
  split <;> rfl

/-- Everything a write of CTRL that lowers EN does (R500, R218). -/
theorem writeCtrl_lowered_eq {v : Word} {s : State} (hold : s.ctrl.enable = true) (hnew : v.getLsbD 0 = false) :
    writeCtrl v s = { busReleased s with
      ctrl := ctrlAfter v s,
      det := { s.det with sr := 0, srCnt := 0, capValid := false, csValid := false },
      cnt := { s.cnt with vlock := false },
      gen := { s.gen with running := false },
      ports := { (busReleased s).ports with syncOe := false },
      trace := { (busReleased s).trace with
        pulses := cutPulses (busReleased s).sched.clock (busReleased s).trace.pulses } } := by
  rw [writeCtrl_of_lowered hold hnew, disableEffects_eq, syncModeEffects_ctrlWritten, busReleased_update]
  simp [syncOutHigh]

/-- Settles O12: `busReleased s` is the state after the forced teardown, and the pulses are cut at this cycle. -/
theorem controlDisable : Obligations.ControlDisable := by
  intro s v hold hnew
  refine ⟨busReleased s, writeCtrl v s, busReleased_spec s, rfl, ?state, ?high⟩
  case state =>
    rw [writeCtrl_lowered_eq hold hnew, ← hnew]
    rfl
  case high =>
    rw [writeCtrl_lowered_eq hold hnew]
    exact fun n => syncOutAfter_of_cut rfl n

/-! ### VSTAT: the three writes (R501 to R503) -/

/-- Only the host bits of the word reach VSTAT (R124). -/
theorem putVstat_and_hmask (w : Word) (s : State) : putVstat (w &&& hmask) s = putVstat w s := by
  have hact : (w &&& hmask).getLsbD 2 = w.getLsbD 2 := by simp [hmask]
  have hfield : ∀ x : BitVec 4, x &&& 15#4 = x := fun _ => BitVec.and_allOnes
  have hvref0 : (w &&& hmask).extractLsb' 4 4 = w.extractLsb' 4 4 := by simp [BitVec.extractLsb'_and, hmask, hfield]
  have hvref1 : (w &&& hmask).extractLsb' 8 4 = w.extractLsb' 8 4 := by simp [BitVec.extractLsb'_and, hmask, hfield]
  rw [putVstat, hact, hvref0, hvref1]
  rfl

/-- VSTAT reads with the host bits of the word that was put there and its other bits as they were (R124). -/
theorem vstatWord_putVstat (w : Word) (s : State) :
    vstatWord (putVstat w s) = (vstatWord s &&& ~~~hmask) ||| (w &&& hmask) := by
  apply BitVec.eq_of_getLsbD_eq
  intro i hi
  simp only [vstatWord, putVstat, hmask, BitVec.getLsbD_append, BitVec.getLsbD_or, BitVec.getLsbD_and,
    BitVec.getLsbD_not]
  interval_cases i <;> simp

/-- A write of VSTAT replaces the host fields. -/
theorem writeVstat_eq (v : Word) (s : State) : writeVstat v s = putVstat v s := by
  have hhost : ((vstatWord s &&& ~~~hmask) ||| (v &&& hmask)) &&& hmask = v &&& hmask := by grind
  rw [writeVstat, ← putVstat_and_hmask, hhost, putVstat_and_hmask]

theorem vstatWord_writeVstatSet (v : Word) (s : State) :
    vstatWord (writeVstatSet v s) = vstatWord s ||| (v &&& hmask) := by
  rw [writeVstatSet, vstatWord_putVstat]
  grind

theorem vstatWord_writeVstatClr (v : Word) (s : State) :
    vstatWord (writeVstatClr v s) = vstatWord s &&& ~~~(v &&& hmask) := by
  rw [writeVstatClr, vstatWord_putVstat]
  grind

theorem exec_rdVstat (s : State) : exec .rdVstat s = .next (afterRead 0x01 (vstatWord s) s) :=
  exec_readOf_of_regWord (r := .vstat) nofun rfl

/-- Settles O13: the three writes put a word whose host bits are the new ones. -/
theorem videoStatusWrites : Obligations.VideoStatusWrites := by
  intro s v w hw
  obtain rfl : w = vstatWord s := by
    rw [hw, vstatWord_eq]
    cases s.vstat.std <;> rfl
  refine ⟨⟨putVstat v s, exec_writeOf_of_writeReg (r := .vstat) (writeVstat_eq v s), rfl, ?vstat, rfl, rfl, rfl⟩,
    ⟨writeVstatSet v s, rfl, rfl, ?set⟩, ⟨writeVstatClr v s, rfl, rfl, ?clr⟩,
    exec_readOf_of_regWord (r := .vstatSet) nofun rfl, exec_readOf_of_regWord (r := .vstatClr) nofun rfl⟩
  case vstat =>
    rw [exec_rdVstat, vstatWord_putVstat]
    rfl
  case set =>
    rw [exec_rdVstat, vstatWord_writeVstatSet]
    rfl
  case clr =>
    rw [exec_rdVstat, vstatWord_writeVstatClr]
    rfl

/-! ### Reads, and writes that are ignored (R504 to R507, R515, R517, R518) -/

theorem fieldWord_eq (s : State) : fieldWord s =
    BitVec.ofNat 16 (s.cnt.parity.toNat + 2 * s.cnt.vlock.toNat + 4 * (zoneCode s.loe.zone).toNat +
      32 * s.loe.busy.toNat) := by
  apply BitVec.eq_of_toNat_eq
  have h0 := s.cnt.parity.toNat_lt
  have h1 := s.cnt.vlock.toNat_lt
  have h2 := (zoneCode s.loe.zone).isLt
  have h5 := s.loe.busy.toNat_lt
  simp only [fieldWord, toNat_append_add, BitVec.toNat_ofBool, BitVec.toNat_ofNat]
  omega

theorem fmStatWord_eq (s : State) : fmStatWord s =
    BitVec.ofNat 16 (s.arb.xfer.toNat + 2 * s.loe.busy.toNat + 4 * s.arb.ready.toNat +
      8 * (if s.arb.mode = .dual then 1 else 0) + 16 * (errBits s.arb.err).toNat) := by
  apply BitVec.eq_of_toNat_eq
  have h0 := s.arb.xfer.toNat_lt
  have h1 := s.loe.busy.toNat_lt
  have h2 := s.arb.ready.toNat_lt
  have h3 : (decide (s.arb.mode = .dual)).toNat = if s.arb.mode = .dual then 1 else 0 := by split <;> simp [*]
  have h4 := (errBits s.arb.err).isLt
  simp only [fmStatWord, toNat_append_add, BitVec.toNat_ofBool, BitVec.toNat_ofNat, h3]
  split <;> omega

theorem lowWord_eq (a : FmAddr) : a.extractLsb' 0 16 = BitVec.ofNat 16 a.toNat := rfl

theorem highWord_eq (a : FmAddr) : (a.extractLsb' 16 8).setWidth 16 = BitVec.ofNat 16 (a.toNat / 2 ^ 16) := by
  apply BitVec.eq_of_toNat_eq
  have hlt := a.isLt
  simp only [BitVec.toNat_setWidth, BitVec.extractLsb'_toNat, BitVec.toNat_ofNat, Nat.shiftRight_eq_div_pow]
  omega

/-- Settles O7: the words of the ten reads, and ten writes that `writeReg` ignores. -/
theorem statusRegisters : Obligations.StatusRegisters := by
  intro s v
  refine ⟨exec_readOf_of_regWord (r := .line) nofun rfl, exec_readOf_of_regWord (r := .lastCount) nofun rfl,
    exec_readOf_of_regWord (r := .field) nofun ((fieldWord_eq s).trans ?field),
    exec_readOf_of_regWord (r := .elapsed) nofun rfl,
    exec_readOf_of_regWord (r := .fmStat) nofun ((fmStatWord_eq s).trans ?fmStat),
    rfl, rfl, rfl, rfl, rfl,
    exec_readOf_of_regWord (r := .dbgSr) nofun rfl,
    exec_readOf_of_regWord (r := .dbgSrcnt) nofun (BitVec.ofNat_toNat _ _).symm,
    exec_readOf_of_regWord (r := .dbgLastline) nofun rfl,
    exec_readOf_of_regWord (r := .dbgAddrLo) nofun (lowWord_eq _),
    exec_readOf_of_regWord (r := .dbgAddrHi) nofun (highWord_eq _),
    rfl, rfl, rfl, rfl, rfl⟩
  case field => cases s.loe.zone <;> rfl
  case fmStat => cases s.arb.err <;> rfl

/-! ### The reserved addresses (R520) -/

/-- Every address of a row is the row's first address and the lower bits. -/
theorem append_eq_add {m n : Nat} (hi : BitVec m) (low : BitVec n) :
    hi ++ low = (hi ++ 0#n) + low.setWidth (m + n) := by
  apply BitVec.eq_of_toNat_eq
  have hlow : low.toNat < 2 ^ (m + n) := low.isLt.trans_le (Nat.pow_le_pow_right (by decide) (Nat.le_add_left n m))
  have hsum := (hi ++ low).isLt
  rw [toNat_append_add] at hsum
  rw [BitVec.toNat_add, toNat_append_add, toNat_append_add, BitVec.toNat_setWidth, Nat.mod_eq_of_lt hlow,
    BitVec.toNat_ofNat, Nat.zero_mod, Nat.add_zero, Nat.mod_eq_of_lt hsum]

theorem exec_reserved_read {d : Word} {a b : RegAddr} {i : Instr} (h : ReservedRow false d a i) (hab : a = b)
    (s : State) : exec i s = .next (afterRead b 0 s) :=
  hab ▸ exec_of_reservedRow h s

theorem exec_reserved_write {d : Word} {a : RegAddr} {i : Instr} (h : ReservedRow true d a i) (s : State) :
    exec i s = .next s :=
  exec_of_reservedRow h s

/-- Settles O10: the ten rows, a read and a write of each. -/
theorem reservedAddresses : Obligations.ReservedAddresses := fun s _ x y z p q =>
  ⟨exec_reserved_read .x19 rfl s, exec_reserved_write .x19 s,
   exec_reserved_read (.x1A x) (append_eq_add _ x) s, exec_reserved_write (.x1A x) s,
   exec_reserved_read (.x1C y) (append_eq_add _ y) s, exec_reserved_write (.x1C y) s,
   exec_reserved_read .x25 rfl s, exec_reserved_write .x25 s,
   exec_reserved_read (.x26 x) (append_eq_add _ x) s, exec_reserved_write (.x26 x) s,
   exec_reserved_read .x2D rfl s, exec_reserved_write .x2D s,
   exec_reserved_read (.x2E x) (append_eq_add _ x) s, exec_reserved_write (.x2E x) s,
   exec_reserved_read (.x30 z) (append_eq_add _ z) s, exec_reserved_write (.x30 z) s,
   exec_reserved_read (.x40 p) (append_eq_add _ p) s, exec_reserved_write (.x40 p) s,
   exec_reserved_read (.x80 q) (append_eq_add _ q) s, exec_reserved_write (.x80 q) s⟩

/-! ### Interrupts (R508, R509) -/

theorem getLsbD_raisedThisCycle (s : State) (n : Nat) :
    (raisedThisCycle s).getLsbD n = (decide (s.irq.raisedAt = s.sched.clock) && s.irq.raised.getLsbD n) := by
  unfold raisedThisCycle
  split <;> simp [*]

theorem ne_zero_iff_exists_bit {w : Nat} (x : BitVec w) : x ≠ 0 ↔ ∃ n < w, x.getLsbD n = true := by
  simp [BitVec.eq_of_getLsbD_eq_iff]

theorem pinIrq_iff (s : State) :
    pinIrq s = true ↔ ∃ n < 10, s.irq.pend.getLsbD n = true ∧ s.irq.en.getLsbD n = true := by
  simp only [pinIrq, irqLevel, decide_eq_true_eq, ne_zero_iff_exists_bit, BitVec.getLsbD_and, Bool.and_eq_true]

/-- Settles O14: an acknowledge bit by bit, and `irq` as the bits that are pending and enabled. -/
theorem interruptRegisters : Obligations.InterruptRegisters := by
  intro s v
  refine ⟨exec_readOf_of_regWord (r := .intPend) nofun (BitVec.ofNat_toNat _ _).symm,
    exec_readOf_of_regWord (r := .intEn) nofun (BitVec.ofNat_toNat _ _).symm,
    ⟨ackInt (v.extractLsb' 0 10) s, rfl, rfl, fun n hn => ?ack⟩, exec_writeOf_of_writeReg (r := .intEn) rfl,
    pinIrq_iff s⟩
  case ack =>
    have hv : (v.extractLsb' 0 10).getLsbD n = v.getLsbD n := by simp [hn]
    rw [ackInt_bit, hv, getLsbD_raisedThisCycle, decide_eq_true hn]
    simp

/-! ### The transaction parameters (R404, R510, R511, R516) -/

theorem unlessXfer_of_idle (a : Arbiter) {s : State} (h : s.arb.xfer = false) : unlessXfer a s = { s with arb := a } :=
  if_neg (by simp [h])

theorem unlessXfer_of_busy (a : Arbiter) {s : State} (h : s.arb.xfer = true) : unlessXfer a s = s := if_pos h

theorem highByte_append_eq (a : FmAddr) (v : Word) :
    a.extractLsb' 16 8 ++ v = BitVec.ofNat 24 (a.toNat / 2 ^ 16 * 2 ^ 16 + v.toNat) := by
  apply BitVec.eq_of_toNat_eq
  have ha := a.isLt
  have hv := v.isLt
  simp only [toNat_append_add, BitVec.extractLsb'_toNat, BitVec.toNat_ofNat, Nat.shiftRight_eq_div_pow]
  omega

theorem append_lowWord_eq (a : FmAddr) (v : Word) :
    v.extractLsb' 0 8 ++ a.extractLsb' 0 16 =
      BitVec.ofNat 24 (v.toNat % 2 ^ 8 * 2 ^ 16 + a.toNat % 2 ^ 16) := by
  apply BitVec.eq_of_toNat_eq
  simp only [toNat_append_add, BitVec.extractLsb'_toNat, BitVec.toNat_ofNat, Nat.shiftRight_zero]
  omega

/-- Settles O16: each write is stored or ignored as XFER says. -/
theorem transferParameters : Obligations.TransferParameters := by
  intro s v
  refine ⟨exec_readOf_of_regWord (r := .fmAddrLo) nofun (lowWord_eq _),
    exec_readOf_of_regWord (r := .fmAddrHi) nofun (highWord_eq _),
    exec_readOf_of_regWord (r := .fmLen) nofun (BitVec.ofNat_toNat _ _).symm,
    exec_readOf_of_regWord (r := .fmBufptr) nofun (BitVec.ofNat_toNat _ _).symm,
    fun hidle => ?idle, fun hbusy => ?busy⟩
  case idle =>
    refine ⟨exec_writeOf_of_writeReg (r := .fmAddrLo) ?lo, exec_writeOf_of_writeReg (r := .fmAddrHi) ?hi,
      exec_writeOf_of_writeReg (r := .fmLen) (unlessXfer_of_idle _ hidle),
      exec_writeOf_of_writeReg (r := .fmBufptr) (unlessXfer_of_idle _ hidle)⟩
    case lo =>
      rw [← highByte_append_eq]
      exact unlessXfer_of_idle _ hidle
    case hi =>
      rw [← append_lowWord_eq]
      exact unlessXfer_of_idle _ hidle
  case busy =>
    exact ⟨exec_writeOf_of_writeReg (r := .fmAddrLo) (unlessXfer_of_busy _ hbusy),
      exec_writeOf_of_writeReg (r := .fmAddrHi) (unlessXfer_of_busy _ hbusy),
      exec_writeOf_of_writeReg (r := .fmLen) (unlessXfer_of_busy _ hbusy),
      exec_writeOf_of_writeReg (r := .fmBufptr) (unlessXfer_of_busy _ hbusy)⟩

/-! ### The buffer ports (R513, R514) -/

/-- Settles O17: one byte of the buffer is written. -/
theorem bufferWritePort : Obligations.BufferWritePort := fun s _ =>
  ⟨fun hidle =>
    ⟨_, exec_writeOf_of_writeReg (r := .fmWdata) (unlessXfer_of_idle _ hidle), rfl,
      memRead_memWrite_same s.arb.buf _ _, fun a ha => memRead_memWrite_other s.arb.buf _ a _ ha⟩,
   fun hbusy => exec_writeOf_of_writeReg (r := .fmWdata) (unlessXfer_of_busy _ hbusy),
   exec_readOf_of_regWord (r := .fmWdata) nofun rfl⟩

theorem readRdata_of_idle {s : State} (h : s.arb.xfer = false) :
    readRdata s = { afterRead 0x11 (rdataWord s) s with
      arb := { s.arb with bufPtr := nextBufPtr s }, sched := { s.sched with draws := s.sched.draws + 1 } } :=
  if_neg (by simp [h])

theorem readRdata_of_busy {s : State} (h : s.arb.xfer = true) : readRdata s = afterRead 0x11 0 s := if_pos h

/-- A read at any other address has no side effect (R89). -/
theorem hostRead_eq_afterRead {a : RegAddr} (ha : a ≠ 0x11) (s : State) : ∃ v, hostRead a s = afterRead a v s := by
  cases hr : regOf a with
  | none => exact ⟨0, by rw [hostRead, hr]; rfl⟩
  | some r =>
    have haddr := addrOf_of_mem_regOf a r hr
    have hne : r ≠ .fmRdata := by
      rintro rfl
      exact ha haddr.symm
    refine ⟨regWord s r, ?_⟩
    simp only [hostRead, hr, readReg_eq_afterRead hne, haddr]

/-- Settles O9: a byte that the host never wrote is a draw. -/
theorem bufferReadPort : Obligations.BufferReadPort := by
  intro s
  refine ⟨fun hidle => ?idle, fun hbusy => congrArg Host.Outcome.next (readRdata_of_busy hbusy),
    fun _ => rfl, fun a ha => ?other⟩
  case idle =>
    refine congrArg Host.Outcome.next ((readRdata_of_idle hidle).trans ?_)
    rw [rdataWord]
    cases memRead s.arb.buf s.arb.bufPtr.toNat <;> rfl
  case other =>
    obtain ⟨v, hv⟩ := hostRead_eq_afterRead ha s
    exact ⟨v, congrArg Host.Outcome.next hv⟩

/-! ### The command register (R512) -/

/-- Every opcode decodes to the row that runs it (R130). -/
theorem exec_decodeFmCmd (op : BitVec 4) (s : State) : exec (decodeFmCmd op) s = .next (fmCommand op s) := by
  obtain rfl | rfl | rfl | rfl | ⟨low, rfl⟩ | ⟨low, rfl⟩ := fmCmd_rows op
  exacts [rfl, rfl, rfl, rfl, congrArg (exec · s) (decodeFmCmd_reserved4 low),
    congrArg (exec · s) (decodeFmCmd_reserved8 low)]

/-- Settles O20: the command in the low four bits, whichever row it is. -/
theorem commandWrite : Obligations.CommandWrite := fun s _ =>
  ⟨(exec_decodeFmCmd _ s).symm, ⟨_, rfl⟩, exec_readOf_of_regWord (r := .fmCmd) nofun rfl⟩

end Sys2Proof.Machine
end

section
/-! PROOFS. The exceptions (spec/60_exceptions.md): the pending bits and who clears them, the report of a new sync source, and
the event that a step handles. -/

namespace Sys2Proof.Machine

/-! ### The pending bits (R603, R606) -/

/-- From `s` to `t` no pending bit is lost. -/
def KeepsPending (s t : State) : Prop := ∀ k, s.irq.pend.getLsbD k = true → t.irq.pend.getLsbD k = true

namespace KeepsPending

theorem of_irq {s t : State} (h : t.irq = s.irq := by simp) : KeepsPending s t := fun _ hk => h ▸ hk

theorem raiseInt (n : IntSrc) (s : State) : KeepsPending s (raiseInt n s) := raiseInt_mono n s

/-- What comes before a part that loses nothing may change anything but the interrupts. -/
theorem after {s t u : State} (htu : KeepsPending t u) (h : t.irq = s.irq := by simp) : KeepsPending s u :=
  fun k hk => htu k (h ▸ hk)

theorem issueCommand (k : XferKind) (s : State) : KeepsPending s (issueCommand k s) := by
  rcases issueCommand_cases k s with ⟨code, _, heq⟩ | ⟨_, heq⟩
  · exact heq ▸ (raiseInt .cmdErr _).after rfl
  · exact heq ▸ of_irq

theorem fmCommand (op : BitVec 4) (s : State) : KeepsPending s (fmCommand op s) := by
  rcases fmCommand_cases op s with heq | ⟨k, heq⟩ | heq
  · exact heq ▸ of_irq
  · exact heq ▸ issueCommand k s
  · exact heq ▸ (raiseInt .cmdErr _).after rfl

theorem xferDoneEvent (s : State) : KeepsPending s (xferDoneEvent s) := by
  unfold Machine.xferDoneEvent
  dsimp only
  split
  · exact (raiseInt .cmdDone _).after
  · exact of_irq rfl

end KeepsPending

@[simp] theorem unlessXfer_irq (a : Arbiter) (s : State) : (unlessXfer a s).irq = s.irq := by
  unfold unlessXfer
  split <;> rfl

/-- Of the register writes only INT_PEND's clears a pending bit. -/
theorem writeReg_keepsPending {r : Reg} (hr : r ≠ .intPend) (v : Word) (s : State) :
    KeepsPending s (writeReg r v s) := by
  cases r with
  | intPend => exact absurd rfl hr
  | ctrl => exact (BusyReported.writeCtrl v s).kept
  | fmAddrLo | fmAddrHi | fmLen | fmWdata | fmBufptr => exact .of_irq (unlessXfer_irq _ s)
  | fmCmd => exact .fmCommand _ s
  | intEn => exact fun _ hk => hk
  | _ => exact .of_irq rfl

/-- `i` acknowledges the bits of `v`: a host write of INT_PEND, by its access word or as EV_HOST_WR (R508, R526). -/
def Acknowledges (i : Instr) (v : Word) : Prop := i = .wrIntPend v ∨ i = .evHostWr 0x08 v

/-- Whatever an operation has run, it loses no pending bit, but for a reset and an acknowledge. -/
theorem Ran.keepsPending {i : Instr} {s t : State} (h : Ran s i t) :
    i = .evReset ∨ (∃ v, Acknowledges i v ∧ t = ackInt (v.extractLsb' 0 10) s) ∨ KeepsPending s t := by
  cases h with
  | reset hi => exact .inl hi
  | write r v hi =>
    by_cases hr : r = .intPend
    · subst hr
      exact .inr (.inl ⟨v, .inl hi, rfl⟩)
    · exact .inr (.inr (writeReg_keepsPending hr v s))
  | hostWrite a v hi =>
    cases ha : regOf a with
    | none => exact .inr (.inr (.of_irq (by rw [Machine.hostWrite, ha])))
    | some r =>
      have hwrite : Machine.hostWrite a v s = writeReg r v s := by rw [Machine.hostWrite, ha]
      by_cases hr : r = .intPend
      · subst hr
        obtain rfl : 0x08 = a := addrOf_of_mem_regOf a _ ha
        exact .inr (.inl ⟨v, .inr hi, hwrite⟩)
      · exact .inr (.inr (hwrite ▸ writeReg_keepsPending hr v s))
  | read | qwrite | qread | dread | rstio | edio | eqio | hostRead | pixStart | streamEnd => exact .inr (.inr .of_irq)
  | reserved write a => exact .inr (.inr (reservedAccess_rule write a (.of_irq rfl) .of_irq))
  | command op => exact .inr (.inr (.fmCommand op s))
  | xferDone => exact .inr (.inr (.xferDoneEvent s))
  | csync => exact .inr (.inr (BusyReported.csyncEvent s).kept)
  | vsync => exact .inr (.inr (BusyReported.vsyncEvent s).kept)
  | cmp => exact .inr (.inr (BusyReported.cmpEvent s).kept)
  | refTick => exact .inr (.inr (BusyReported.refTickEvent s).kept)
  | genLine => exact .inr (.inr (BusyReported.genLineEvent s).kept)
  | line => exact .inr (.inr (BusyReported.lineEvent s).kept)
  | verticalSync kind x => exact .inr (.inr (BusyReported.verticalSync kind x s).kept)
  | timeout => exact .inr (.inr (BusyReported.timeoutSwitch s).kept)
  | zone z => exact .inr (.inr (BusyReported.loeStepIn z s).kept)
  | idle => exact .inr (.inr (.of_irq rfl))

/-- A bit that an acknowledge clears is one of the written ones (R508, R606). -/
theorem ackInt_keeps_unwritten {v : Word} {s : State} {n : Nat} (hpend : s.irq.pend.getLsbD n = true)
    (hv : v.getLsbD n = false) : (ackInt (v.extractLsb' 0 10) s).irq.pend.getLsbD n = true := by
  have hn : n < 10 := BitVec.lt_of_getLsbD hpend
  simp [ackInt_bit, hpend, hn, hv]

/-- Settles O15: of what an operation can have run, only a reset and an acknowledge are to be looked at. -/
theorem pendingStays : Obligations.PendingStays := by
  intro i s t n hexec hpend
  rcases (ran_of_exec hexec).keepsPending with hreset | ⟨v, hack, rfl⟩ | hkept
  · exact .inr (.inl hreset)
  · cases hv : v.getLsbD n with
    | true => exact .inr (.inr ⟨v, hack, hv⟩)
    | false => exact .inl (ackInt_keeps_unwritten hpend hv)
  · exact .inl (hkept n hpend)

/-! ### The report of a new sync source (R211, R214, R602) -/

/-- Whether a change of SYNC_SRC from `s` to `t` has SRC_CHG pending in `t`. -/
def SourceReported (s t : State) : Prop := t.vstat.srcExt = s.vstat.srcExt ∨ t.irq.pend.getLsbD 2 = true

theorem SourceReported.of_vstat {s t : State} (h : t.vstat = s.vstat := by simp) : SourceReported s t :=
  .inl (congrArg Vstat.srcExt h)

/-- A genuine vertical sync event ends internal sync and raises SRC_CHG with VSYNC (R214). -/
theorem verticalSync_genuine_reports (x : Bool) (s : State) : SourceReported s (verticalSync .genuine x s) := by
  rw [verticalSync_genuine_eq]
  cases hext : s.vstat.srcExt with
  | true => exact .inl hext.symm
  | false => exact .inr (by simp [irqAfter])

/-- The switch to internal sync raises SRC_CHG before the first generated line, which loses no pending bit (R211). -/
theorem timeoutSwitch_reports (s : State) : (timeoutSwitch s).irq.pend.getLsbD 2 = true :=
  (BusyReported.firstGenLine _).kept 2 (by simp)

/-- From `s` to `t` VSTAT is written by one genuine vertical sync event, or not at all. -/
def GenuineOrKept (s t : State) : Prop :=
  t.vstat = s.vstat ∨ ∃ (x : Bool) (u : State), t = verticalSync .genuine x u ∧ u.vstat = s.vstat

theorem GenuineOrKept.reported {s t : State} (h : GenuineOrKept s t) : SourceReported s t := by
  rcases h with hkept | ⟨x, u, rfl, hu⟩
  · exact .of_vstat hkept
  · unfold SourceReported
    rw [← hu]
    exact verticalSync_genuine_reports x u

theorem vsyncEvent_genuineOrKept (s : State) : GenuineOrKept s (vsyncEvent s) := by
  unfold vsyncEvent
  split
  · exact .inr ⟨_, s, rfl, rfl⟩
  · exact .inl rfl

theorem matchPattern_genuineOrKept (s : State) : GenuineOrKept s (matchPattern s) := by
  unfold matchPattern
  dsimp only
  split
  · exact .inr ⟨_, _, rfl, rfl⟩
  · split
    · exact .inr ⟨_, _, rfl, rfl⟩
    · exact .inl rfl

theorem acceptedEdge_genuineOrKept (delta : Nat) (s : State) : GenuineOrKept s (acceptedEdge delta s) := by
  unfold acceptedEdge
  split
  · split
    · exact .inl (lineEvent_vstat s)
    · simpa [GenuineOrKept] using matchPattern_genuineOrKept (loseLock s)
  · exact matchPattern_genuineOrKept s

theorem cmpEvent_genuineOrKept (s : State) : GenuineOrKept s (cmpEvent s) := by
  unfold cmpEvent
  dsimp only
  split
  · split
    · split
      · exact .inl rfl
      · split
        · exact .inl rfl
        · simpa [GenuineOrKept] using acceptedEdge_genuineOrKept (stampDelta s.cfg (now s) s.det.capLast)
            (classify (stampDelta s.cfg (now s) s.det.capLast)
              { s with det := { s.det with capLast := now s, capValid := true } })
    · exact .inl rfl
  · exact .inl rfl

/-- A reference tick reaches SYNC_SRC by the switch to internal sync only (R210). -/
theorem refTickEvent_reports (s : State) : SourceReported s (refTickEvent s) := by
  cases hen : s.ctrl.enable with
  | false => exact .of_vstat (congrArg State.vstat (refTickEvent_of_disabled hen))
  | true =>
    rw [refTickEvent_of_enabled hen]
    split
    · exact .inr (timeoutSwitch_reports _)
    · exact .of_vstat rfl

/-- No register write reaches SYNC_SRC: VSTAT's own writes take the host's fields only (R501 to R503). -/
theorem writeReg_srcExt (r : Reg) (v : Word) (s : State) : (writeReg r v s).vstat.srcExt = s.vstat.srcExt := by
  cases r with
  | ctrl => exact congrArg Vstat.srcExt (writeCtrl_vstat v s)
  | fmAddrLo | fmAddrHi | fmLen | fmWdata | fmBufptr => exact congrArg Vstat.srcExt (unlessXfer_vstat _ s)
  | fmCmd => exact congrArg Vstat.srcExt (fmCommand_vstat _ s)
  | _ => rfl

/-- Whatever an operation has run, a change of SYNC_SRC is reported, but for a reset's. -/
theorem Ran.sourceReported {i : Instr} {s t : State} (h : Ran s i t) : i = .evReset ∨ SourceReported s t := by
  cases h with
  | reset hi => exact .inl hi
  | read | command | qwrite | qread | dread | rstio | edio | eqio | csync | genLine | hostRead | xferDone | pixStart
  | streamEnd | line | zone => exact .inr .of_vstat
  | write r v => exact .inr (.inl (writeReg_srcExt r v s))
  | reserved write a => exact .inr (reservedAccess_rule write a (.inl rfl) (.inl rfl))
  | hostWrite a v => exact .inr (hostWrite_rule a (.inl rfl) fun r => .inl (writeReg_srcExt r v s))
  | vsync => exact .inr (vsyncEvent_genuineOrKept s).reported
  | cmp => exact .inr (cmpEvent_genuineOrKept s).reported
  | refTick => exact .inr (refTickEvent_reports s)
  | verticalSync kind x =>
    cases kind with
    | genuine => exact .inr (verticalSync_genuine_reports x s)
    | internal => exact .inr .of_vstat
  | timeout => exact .inr (.inr (timeoutSwitch_reports s))
  | idle => exact .inr (.inl rfl)

/-- Settles O59: what an operation has run, by `Ran`, reports a change of SYNC_SRC. -/
theorem sourceChangeIsReported : Obligations.SourceChangeIsReported := fun _ _ _ hexec hchange =>
  (ran_of_exec hexec).sourceReported.imp_right fun h => h.resolve_left hchange

/-! ### What is due (R139, R612) -/

/-- A stimulus as due: number `k` of the environment, now if its cycle has passed (log entry 11). -/
def stimulusDue (s : State) (k : Nat) (q : Stimulus) : Due :=
  { time := max q.time s.sched.clock, rank := driveRank q.drive, fetch := driveFetch s.cfg q.drive, input := some k,
    source := driveSource q.drive }

/-- The stimuli as due, each with its number. -/
theorem inputDues_eq (s : State) (i : Nat) (l : List Stimulus) :
    inputDues s i l = (l.zipIdx i).map fun p => stimulusDue s p.2 p.1 := by
  induction l generalizing i with
  | nil => rfl
  | cons q rest ih =>
    rw [inputDues, ih]
    rfl

/-- What the scheduler chooses from: the timers that run and all stimuli. -/
def dues (s : State) : List Due := timerDues s ++ inputDues s 0 s.inputs

theorem nextDue_mem {s : State} {d : Due} (h : nextDue s = some d) : d ∈ dues s := firstDue_mem _ _ h

theorem mem_dues_iff {s : State} {d : Due} :
    d ∈ dues s ↔ d ∈ timerDues s ∨ ∃ k q, s.inputs[k]? = some q ∧ d = stimulusDue s k q := by
  simp only [dues, List.mem_append, inputDues_eq, List.mem_map, Prod.exists, List.mem_zipIdx_iff_getElem?]
  refine or_congr_right ⟨?_, ?_⟩
  · rintro ⟨q, k, hq, rfl⟩
    exact ⟨k, q, hq, rfl⟩
  · rintro ⟨k, q, hq, rfl⟩
    exact ⟨q, k, hq, rfl⟩

theorem stimulusDue_mem {s : State} {k : Nat} {q : Stimulus} (h : s.inputs[k]? = some q) : stimulusDue s k q ∈ dues s :=
  mem_dues_iff.2 (.inr ⟨k, q, h, rfl⟩)

/-- The event of a timer as due. -/
def timerEvent (time rank : Nat) (code : BitVec 5) : Due :=
  { time := time, rank := rank, fetch := some (eventFetch code 0), input := none, source := none }

theorem mem_timerDue_iff {running : Bool} {time rank : Nat} {code : BitVec 5} {d : Due} :
    d ∈ timerDue running time rank code ↔ running = true ∧ d = timerEvent time rank code := by
  cases running <;> simp [timerDue, timerEvent]

theorem timerDue_eq_nil_iff {running : Bool} {time rank : Nat} {code : BitVec 5} :
    timerDue running time rank code = [] ↔ running = false := by
  cases running <;> simp [timerDue]

/-- The five timers and when each runs (R31, R32, R313, R401). -/
theorem mem_timerDues_iff {s : State} {d : Due} :
    d ∈ timerDues s ↔
      (s.loe.streaming = true ∧ d = timerEvent (max s.sched.endDue s.sched.clock) 2 0x0B) ∨
      ((s.loe.streaming = true ∧ s.ports.pixValid = false) ∧
        d = timerEvent (max s.sched.pixDue s.sched.clock) 3 0x0A) ∨
      ((s.ctrl.enable = true ∧ s.gen.running = true) ∧ d = timerEvent (cycleOf s s.gen.next) 7 0x05) ∨
      (s.ctrl.enable = true ∧ d = timerEvent (cycleOf s s.gen.refNext) 8 0x04) ∨
      (s.arb.xfer = true ∧ d = timerEvent (max s.sched.xferDue s.sched.clock) 9 0x09) := by
  simp only [timerDues, List.mem_append, mem_timerDue_iff, Bool.and_eq_true, Bool.not_eq_true', or_assoc]

/-- Nothing is due when no timer runs and the environment does nothing more (R10). -/
theorem dues_eq_nil_iff (s : State) :
    dues s = [] ↔ s.inputs = [] ∧ s.loe.streaming = false ∧ s.ctrl.enable = false ∧ s.arb.xfer = false := by
  have hinputs : inputDues s 0 s.inputs = [] ↔ s.inputs = [] := by simp [inputDues_eq]
  have htimers : timerDues s = [] ↔ s.loe.streaming = false ∧ s.ctrl.enable = false ∧ s.arb.xfer = false := by
    simp only [timerDues, List.append_eq_nil_iff, timerDue_eq_nil_iff]
    constructor
    · rintro ⟨⟨⟨⟨hstream, _⟩, _⟩, hen⟩, hxfer⟩
      exact ⟨hstream, hen, hxfer⟩
    · rintro ⟨hstream, hen, hxfer⟩
      simp [hstream, hen, hxfer]
  rw [dues, List.append_eq_nil_iff, hinputs, htimers, and_comm]

/-! ### The order of time and of R610 -/

theorem dueBefore_iff {a b : Due} :
    dueBefore a b = true ↔ a.time < b.time ∨ (a.time = b.time ∧ a.rank ≤ b.rank) := by
  simp [dueBefore]

theorem dueBefore_total (a b : Due) : dueBefore a b = true ∨ dueBefore b a = true := by
  simp only [dueBefore_iff]
  omega

theorem dueBefore_trans {a b c : Due} (hab : dueBefore a b = true) (hbc : dueBefore b c = true) :
    dueBefore a c = true := by
  simp only [dueBefore_iff] at *
  omega

theorem firstDue_eq_none_iff (l : List Due) : firstDue l = none ↔ l = [] := by
  cases l with
  | nil => simp [firstDue]
  | cons a rest =>
    simp only [firstDue, reduceCtorEq, iff_false]
    split
    · nofun
    · split <;> nofun

/-- Nothing in the list comes before the chosen event. -/
theorem firstDue_before {l : List Due} {d : Due} (h : firstDue l = some d) : ∀ e ∈ l, dueBefore d e = true := by
  induction l generalizing d with
  | nil => nomatch h
  | cons a rest ih =>
    have hself : dueBefore a a = true := (dueBefore_total a a).elim id id
    rw [List.forall_mem_cons]
    rw [firstDue] at h
    cases hrest : firstDue rest with
    | none =>
      rw [hrest] at h
      obtain rfl := Option.some.inj h
      rw [(firstDue_eq_none_iff rest).1 hrest]
      exact ⟨hself, nofun⟩
    | some b =>
      simp only [hrest] at h
      split at h
      · rename_i hab
        obtain rfl := Option.some.inj h
        exact ⟨hself, fun e he => dueBefore_trans hab (ih hrest e he)⟩
      · rename_i hab
        obtain rfl := Option.some.inj h
        exact ⟨(dueBefore_total a b).resolve_left hab, ih hrest⟩

/-! ### Pending events (R139, R610, R612) -/

theorem edgeActive_iff (e : Edge) (rise : Bool) : edgeActive e rise = true ↔ ActiveEdge e rise := by
  cases e <;> simp [edgeActive, ActiveEdge]

theorem edgeFetch_eq_some_iff {e : Edge} {rise : Bool} {code : BitVec 5} {f : Fetch} :
    edgeFetch e rise code = some f ↔ ActiveEdge e rise ∧ eventFetch code 0 = f := by
  simp [edgeFetch, edgeActive_iff]

theorem edgeFetch_eq_none_iff {e : Edge} {rise : Bool} {code : BitVec 5} :
    edgeFetch e rise code = none ↔ ¬ActiveEdge e rise := by
  simp [edgeFetch, edgeActive_iff]

/-- A timer runs by the first cycle from now on that has its timestamp (R9, R31, R32). -/
theorem stampCycle_iff (s : State) (stamp cycle : Nat) : StampCycle s stamp cycle ↔ cycle = cycleOf s stamp := by
  have hpos : 0 < 2 ^ s.cfg.tsW := Nat.two_pow_pos _
  unfold StampCycle cycleOf stampDelta now stampModulus
  generalize 2 ^ s.cfg.tsW = m at hpos ⊢
  generalize s.sched.clock = clock
  have hnow := Nat.mod_lt clock hpos
  have hdelta := Nat.mod_lt (stamp + m - clock % m % m) hpos
  have hstamp : (clock + (stamp + m - clock % m % m) % m) % m = stamp % m := by
    have hsum : clock + (stamp + m - clock % m) = stamp + m * (clock / m + 1) := by
      have hdiv := Nat.div_add_mod clock m
      rw [Nat.mul_add]
      omega
    rw [Nat.add_mod_mod, Nat.mod_mod, hsum, Nat.add_mul_mod_self_left]
  constructor
  · rintro ⟨hlow, hhigh, hcycle⟩
    have hmod : clock + (cycle - clock) ≡ clock + (stamp + m - clock % m % m) % m [MOD m] := by
      rw [Nat.add_sub_cancel' hlow]
      exact hcycle.trans hstamp.symm
    have hdist := (Nat.ModEq.add_left_cancel' clock hmod).eq_of_lt_of_lt (by omega) hdelta
    omega
  · rintro rfl
    exact ⟨Nat.le_add_right _ _, by omega, hstamp⟩

/-- What a stimulus delivers is pending from it (R139, R526). -/
theorem pending_of_stimulus {s : State} {k : Nat} {q : Stimulus} {f : Fetch} (hk : s.inputs[k]? = some q)
    (hf : driveFetch s.cfg q.drive = some f) : Pending s (max q.time s.sched.clock) f (some k) := by
  obtain ⟨t, drive⟩ := q
  cases drive with
  | rst => exact Option.some.inj hf ▸ .reset k t hk
  | vsync rise =>
    obtain ⟨hactive, rfl⟩ := edgeFetch_eq_some_iff.1 hf
    exact .vsync k t rise hk hactive
  | csync rise =>
    obtain ⟨hactive, rfl⟩ := edgeFetch_eq_some_iff.1 hf
    exact .csync k t rise hk hactive
  | cmp rise =>
    obtain ⟨hactive, rfl⟩ := edgeFetch_eq_some_iff.1 hf
    exact .cmp k t rise hk hactive
  | host access => exact Option.some.inj hf ▸ .host k t access hk
  | frame mode word tail => exact Option.some.inj hf ▸ .frame k t mode word tail hk
  | sio => nomatch hf

/-- What is due as an event is pending (R612). -/
theorem pending_of_mem_dues {s : State} {d : Due} {f : Fetch} (hd : d ∈ dues s) (hf : d.fetch = some f) :
    Pending s d.time f d.input := by
  rcases mem_dues_iff.1 hd with htimer | ⟨k, q, hk, rfl⟩
  · rcases mem_timerDues_iff.1 htimer with ⟨h, rfl⟩ | ⟨⟨h, hpix⟩, rfl⟩ | ⟨⟨h, hgen⟩, rfl⟩ | ⟨h, rfl⟩ | ⟨h, rfl⟩
    all_goals obtain rfl := Option.some.inj hf
    · exact .streamEnd h
    · exact .pixStart h hpix
    · exact .genLine _ h hgen ((stampCycle_iff s _ _).2 rfl)
    · exact .refTick _ h ((stampCycle_iff s _ _).2 rfl)
    · exact .xferDone h
  · exact pending_of_stimulus hk hf

/-- A pending event is due at its cycle (R612). -/
theorem Pending.mem_dues {s : State} {cycle : Nat} {f : Fetch} {i : Option Nat} (h : Pending s cycle f i) :
    ∃ d ∈ dues s, d.fetch = some f ∧ d.time = cycle := by
  have htimer : ∀ {d : Due}, d ∈ timerDues s → d ∈ dues s := fun hd => mem_dues_iff.2 (.inl hd)
  cases h with
  | streamEnd h => exact ⟨_, htimer (mem_timerDues_iff.2 (.inl ⟨h, rfl⟩)), rfl, rfl⟩
  | pixStart h hpix => exact ⟨_, htimer (mem_timerDues_iff.2 (.inr (.inl ⟨⟨h, hpix⟩, rfl⟩))), rfl, rfl⟩
  | genLine cycle h hgen hstamp =>
    obtain rfl := (stampCycle_iff s _ _).1 hstamp
    exact ⟨_, htimer (mem_timerDues_iff.2 (.inr (.inr (.inl ⟨⟨h, hgen⟩, rfl⟩)))), rfl, rfl⟩
  | refTick cycle h hstamp =>
    obtain rfl := (stampCycle_iff s _ _).1 hstamp
    exact ⟨_, htimer (mem_timerDues_iff.2 (.inr (.inr (.inr (.inl ⟨h, rfl⟩))))), rfl, rfl⟩
  | xferDone h => exact ⟨_, htimer (mem_timerDues_iff.2 (.inr (.inr (.inr (.inr ⟨h, rfl⟩))))), rfl, rfl⟩
  | reset i t hi | host i t _ hi | frame i t _ _ _ hi => exact ⟨_, stimulusDue_mem hi, rfl, rfl⟩
  | vsync i t rise hi hactive | csync i t rise hi hactive | cmp i t rise hi hactive =>
    exact ⟨_, stimulusDue_mem hi, edgeFetch_eq_some_iff.2 ⟨hactive, rfl⟩, rfl⟩

theorem Pending.clock_le {s : State} {cycle : Nat} {f : Fetch} {i : Option Nat} (h : Pending s cycle f i) :
    s.sched.clock ≤ cycle := by
  cases h with
  | genLine _ _ _ hstamp => exact hstamp.1
  | refTick _ _ hstamp => exact hstamp.1
  | _ => exact Nat.le_max_right _ _

/-- A stimulus has its event's place in R610's order, after that of a new source of `fm_sio_i` (log entry 6). -/
theorem driveRank_eq_placeInCycle {c : Cfg} {q : Drive} {f : Fetch} (h : driveFetch c q = some f) :
    driveRank q = placeInCycle f + 1 := by
  cases q with
  | rst | host | frame => exact Option.some.inj h ▸ rfl
  | vsync | csync | cmp => exact (edgeFetch_eq_some_iff.1 h).2 ▸ rfl
  | sio => nomatch h

/-- What is due as an event has its place in R610's order. -/
theorem rank_eq_placeInCycle {s : State} {d : Due} {f : Fetch} (hd : d ∈ dues s) (hf : d.fetch = some f) :
    d.rank = placeInCycle f + 1 := by
  rcases mem_dues_iff.1 hd with htimer | ⟨k, q, _, rfl⟩
  · rcases mem_timerDues_iff.1 htimer with ⟨_, rfl⟩ | ⟨_, rfl⟩ | ⟨_, rfl⟩ | ⟨_, rfl⟩ | ⟨_, rfl⟩
    all_goals exact Option.some.inj hf ▸ rfl
  · exact driveRank_eq_placeInCycle hf

/-- A stimulus that delivers no event is a new source of `fm_sio_i` or an edge that is not the active one (R11, R42). -/
theorem driveFetch_eq_none {c : Cfg} {q : Drive} (h : driveFetch c q = none) :
    (∃ x, q = .sio x ∧ driveSource q = some x) ∨
    (driveSource q = none ∧ ∃ rise, (q = .vsync rise ∧ ¬ActiveEdge c.vsyncEdge rise) ∨
      (q = .csync rise ∧ ¬ActiveEdge c.csyncEdge rise) ∨ (q = .cmp rise ∧ ¬ActiveEdge c.cmpEdge rise)) := by
  cases q with
  | sio x => exact .inl ⟨x, rfl, rfl⟩
  | vsync rise => exact .inr ⟨rfl, rise, .inl ⟨rfl, edgeFetch_eq_none_iff.1 h⟩⟩
  | csync rise => exact .inr ⟨rfl, rise, .inr (.inl ⟨rfl, edgeFetch_eq_none_iff.1 h⟩)⟩
  | cmp rise => exact .inr ⟨rfl, rise, .inr (.inr ⟨rfl, edgeFetch_eq_none_iff.1 h⟩)⟩
  | rst | host | frame => nomatch h

/-- What is due as no event is a stimulus: every timer has its event. -/
theorem stimulus_of_no_fetch {s : State} {d : Due} (hd : d ∈ dues s) (hf : d.fetch = none) :
    ∃ k q, s.inputs[k]? = some q ∧ d = stimulusDue s k q := by
  refine (mem_dues_iff.1 hd).resolve_left fun htimer => ?_
  rcases mem_timerDues_iff.1 htimer with ⟨_, rfl⟩ | ⟨_, rfl⟩ | ⟨_, rfl⟩ | ⟨_, rfl⟩ | ⟨_, rfl⟩
  all_goals nomatch hf

/-- No pending event comes before what is handled, in time and then in R610's order. -/
theorem nextDue_first {s : State} {d : Due} (hdue : nextDue s = some d) {cycle : Nat} {g : Fetch} {i : Option Nat}
    (hg : Pending s cycle g i) : d.time < cycle ∨ (d.time = cycle ∧ d.rank ≤ placeInCycle g + 1) := by
  obtain ⟨e, he, hfetch, rfl⟩ := hg.mem_dues
  rw [← rank_eq_placeInCycle he hfetch]
  exact dueBefore_iff.1 (firstDue_before hdue e he)

/-- Settles O5: what is due as an event is what is pending, and `firstDue` chooses the first of it. -/
theorem nextDueIsFirst : Obligations.NextDueIsFirst := by
  refine ⟨fun s d f hdue hf => ?event, fun s d hdue hf => ⟨?passedOver, fun cycle g i hg => ?notBefore⟩,
    fun s => (firstDue_eq_none_iff _).trans (dues_eq_nil_iff s)⟩
  case event =>
    have hmem := nextDue_mem hdue
    have hpend := pending_of_mem_dues hmem hf
    refine ⟨hpend, hpend.clock_le, fun cycle g i hg => ?_⟩
    have hfirst := nextDue_first hdue hg
    rw [rank_eq_placeInCycle hmem hf] at hfirst
    exact hfirst.imp_right (.imp_right Nat.le_of_succ_le_succ)
  case passedOver =>
    obtain ⟨k, ⟨t, drive⟩, hk, rfl⟩ := stimulus_of_no_fetch (nextDue_mem hdue) hf
    exact ⟨k, t, drive, rfl, hk, rfl, driveFetch_eq_none hf⟩
  case notBefore =>
    have hfirst := nextDue_first hdue hg
    omega

end Sys2Proof.Machine
end

section
/-! PROOFS. Reset (spec/70_reset_and_hazards.md R700): what it leaves of the device, and the pins after it (R42). -/

namespace Sys2Proof.Machine

/-! ### The device (R43, R413) -/

theorem wrongModeXfer_iff (s : State) :
    wrongModeXfer s = true ↔ s.arb.xfer = true ∧ s.arb.kind ≠ .init ∧ s.sched.xferMode ≠ .quad := by
  simp [wrongModeXfer, and_assoc]

/-- What is left of each byte: nothing after a frame of another mode, nothing in the range of a cut WRITE (R413, R700). -/
theorem memRead_resetDevice (s : State) (a : Nat) : memRead (resetDevice s).mem a =
    if s.arb.xfer = true ∧ s.arb.kind ≠ .init ∧ s.sched.xferMode ≠ .quad then none
    else if s.arb.xfer = true ∧ s.arb.kind = .write ∧
      s.arb.fmAddr.toNat ≤ a ∧ a < s.arb.fmAddr.toNat + s.arb.fmLen.toNat then none
    else memRead s.dev.mem a := by
  simp only [resetDevice, wrongModeXfer_iff, Bool.and_eq_true, decide_eq_true_eq]
  split
  case isTrue => rfl
  case isFalse =>
    split
    case isTrue hcut =>
      obtain ⟨hxfer, hkind⟩ := hcut
      simp only [memRead_memForget, hxfer, hkind, true_and]
    case isFalse hcut => rw [if_neg fun ⟨hxfer, hkind, _⟩ => hcut ⟨hxfer, hkind⟩]

/-! ### The pins while no frame has been sent since the reset (R42) -/

section
variable {s : State} (hframes : s.trace.frames = [])
include hframes

theorem currentWire_of_no_frames : currentWire s = none := by simp [currentWire, hframes]

theorem pinFmSioO_of_no_frames : pinFmSioO s = 0xF := by
  simp [pinFmSioO, drivenLines, currentWire_of_no_frames hframes, hframes]

theorem pinPixOut_of_no_frames (hvalid : s.ports.pixValid = false) : pinPixOut s = 0 := by
  simp [pinPixOut, hvalid, hframes]

end

theorem pinIrq_of_none_pending {s : State} (h : s.irq.pend = 0) : pinIrq s = false := by simp [pinIrq, irqLevel, h]

/-! ### The event (R700) -/

theorem resetEvent_rows (s : State) :
    (resetEvent s).trace.rows = if s.loe.streaming then rowsCut s else s.trace.rows := by
  rw [← markStreamed_cut]
  rfl

/-- Settles O51: `resetEvent s` has the reset values in its definition; what remains is the running row's count, the
device's bytes, and the pins, which are at reset because nothing is on the wires, no pulse goes on and no bit is pending. -/
theorem resetEvent_spec : Obligations.ResetEvent := by
  intro s
  refine ⟨resetEvent s, rfl, ?state, memRead_resetDevice s, fun n => syncOutAfter_of_cut rfl n, ?pins⟩
  case state =>
    rw [← resetEvent_rows]
    rfl
  case pins =>
    have hframes : (resetEvent s).trace.frames = [] := rfl
    obtain ⟨hselect, hclock, henable⟩ := pins_of_no_wire (currentWire_of_no_frames hframes)
    exact ⟨hselect, hclock, pinFmSioO_of_no_frames hframes, henable, pinPixOut_of_no_frames hframes rfl,
      pinIrq_of_none_pending rfl⟩

end Sys2Proof.Machine
end
